-- ==== Sys2Proof/Word.lean ====
section
/-! DEFINITION. The byte of the external lines and the fixed words of the part. -/

namespace Sys2Proof

/-- One byte of an external line or of the buffer pool. -/
abbrev Byte := BitVec 8

/-- The 64-bit identity read from a cartridge tag (Terms: Serial). -/
abbrev Serial := BitVec 64

/-- A 128-bit document key (R137). -/
abbrev Key := BitVec 128

end Sys2Proof
end

