-- ==== Sys2Proof/Config.lean ====
section
/-! DEFINITION. What is fixed in the part: the capacities of 00_scope.md, and the free values, which have no body. -/

namespace Sys2Proof.Config

/-! ## Free values (logs 7, 8, 10, 12, 19, 32): nothing in Lean can evaluate them -/

/-- Draw `n` of the part's random source for a document key (R137; log 7). -/
opaque randomKey : Nat → Key

/-- Draw `n` of the part's random source for a challenge (R91; log 7). -/
opaque randomChallenge : Nat → BitVec 64

/-- The family key, placed in the part at manufacture (R95; log 8). -/
opaque familyKey : List Byte

/-- The tag key derived from the family key and a serial (R95; log 8). -/
opaque tagKey : List Byte → Serial → List Byte

/-- The part's cartridge check function: the response of a genuine tag to a challenge (R95; log 8). -/
opaque tagResponse : List Byte → BitVec 64 → BitVec 64

/-- Byte `j` of the keyed stream function's output for a key, document number, band number and unit index (R163; log 8). -/
opaque keyStream : Key → (document band unit j : Nat) → Byte

/-- The part's keyed check over bytes (R163; log 8). -/
opaque keyedCheck : Key → List Byte → BitVec 64

/-- Byte `i` of a frame that has not ended, at draw `n` (R128; log 10). -/
opaque arrivingByte : (n i : Nat) → Byte

/-- What the pool holds between a supply reset and the end of its full fill, at draw `n` (R135; log 12). -/
opaque poolAfterReset : Nat → List (Nat × Byte)

/-- The class byte of a reply to a frame whose class `n` leaves no byte `n + 128` (R172, R173; log 19). -/
opaque replyClassAbove : Nat → Byte

/-- The first block POOL READ reports for the longest run of FREE blocks when no block is FREE (R134; log 32). -/
opaque emptyRunFirst : BitVec 16

/-! ## Capacities (00_scope.md, Principal capacities) -/

def positions : Nat := 192
def maxUserNumber : Nat := 99999999
def pinFailureLimit : Nat := 5
def maxMoney : Nat := 16000000
def maxJobs : Nat := 16
def maxNumber : Nat := 65535
def sheetStop : Nat := 1000000
def countingLimit : Nat := 8000000
def queueSize : Nat := 32
def holdAssert : Nat := 24
def holdRelease : Nat := 8
def sideCeiling : Nat := 65535
def meterTop : Nat := 99999999
def rejectSize : Nat := 32
def snapshotSize : Nat := 4
def poolBlocks : Nat := 512
def blockBytes : Nat := 64
def wipeSize : Nat := 8
def maxDocuments : Nat := 64
def noticeSize : Nat := 64
def maxBody : Nat := 2040
def debitTop : Nat := 4294967295
def insertionTop : Nat := 16777215
def writeQuantum : Nat := 4096
/-- The flush interval of 2 s (R112) and the answer limit of 25 ms (R91), in ms. -/
def flushMs : Nat := 2000
def answerMs : Nat := 25

end Sys2Proof.Config
end

