-- ==== Sys2Proof/Machine/Types.lean ====
section
/-! DEFINITION. The data the blocks hold: enumerations in the order their chapters list them, and the records. -/

namespace Sys2Proof.Machine

/-! ## Containers -/

/-- Four like things: slots 0 to 3, or streams 0 to 3. -/
structure Four (α : Type) where
  a0 : α
  a1 : α
  a2 : α
  a3 : α
  deriving DecidableEq, Repr

/-- Item `i` of four. -/
def Four.get {α : Type} (q : Four α) (i : Fin 4) : α :=
  match i with
  | 0 => q.a0
  | 1 => q.a1
  | 2 => q.a2
  | 3 => q.a3

/-- Four with item `i` replaced. -/
def Four.set {α : Type} (q : Four α) (i : Fin 4) (x : α) : Four α :=
  match i with
  | 0 => { q with a0 := x }
  | 1 => { q with a1 := x }
  | 2 => { q with a2 := x }
  | 3 => { q with a3 := x }

/-- The four items in increasing number. -/
def Four.toList {α : Type} (q : Four α) : List α := [q.a0, q.a1, q.a2, q.a3]

/-- The four numbers, in increasing order. -/
def fourIndices : List (Fin 4) := [0, 1, 2, 3]

/-- Records by number, in increasing number: the present accounts by position, the jobs by job number. -/
abbrev Table (α : Type) := List (Nat × α)

/-! ## Lines -/

/-- A byte as it arrives on an asynchronous line: its value, and whether its stop bit was good (R60, R170). -/
structure LineByte where
  value : Byte
  stopOk : Bool := true
  deriving DecidableEq, Repr

/-- Header of a band frame on the scan port, offsets 1 to 5 (R157). -/
structure ScanHeader where
  stream : Byte
  flags : Byte
  sizeClass : Byte
  length : BitVec 16
  deriving DecidableEq, Repr

/-- Header of an image frame, offsets 1 to 10 (R161). -/
structure ImgHeader where
  document : BitVec 16
  band : BitVec 16
  page : BitVec 16
  flags : Byte
  sizeClass : Byte
  length : BitVec 16
  deriving DecidableEq, Repr

/-- What follows the header of a band frame: payload and check bytes, or a stop-bit error that broke it (R157). -/
inductive ScanTail where
  | complete (payload : List Byte) (check : BitVec 16)
  | stopBitError
  deriving DecidableEq, Repr

/-- What follows the header of an image frame: ciphertext, band tag and check bytes, or a stop-bit error (R161). -/
inductive ImgTail where
  | complete (ciphertext : List Byte) (tag : BitVec 64) (check : BitVec 16)
  | stopBitError
  deriving DecidableEq, Repr

/-- The answers of SCAN ANSWER and IMG ANSWER (chapter 11, Scan port band frame). -/
inductive Answer where
  | accept
  | refuse
  | refuseCheck
  deriving DecidableEq, Repr

/-- Why a supply reset began (R180). -/
inductive ResetCause where
  | resetInput
  | supply
  deriving DecidableEq, Repr

/-! ## Status codes (chapter 11) -/

inductive Status where
  | ok | busy | frameError | unknown | malformed | range | notPermitted | noSession
  | sessionBusy | noAccount | suspended | locked | badPin | duplicate | tableFull | noCredit
  | colourLimited | tonerUnavailable | storeFull | noDocument | inUse | overlap | tampered
  deriving DecidableEq, Repr

/-! ## Meters and counters (R77, R83) -/

/-- A meter or an account counter: a value of eight decimal digits and its FULL mark. -/
structure Meter where
  value : Nat := 0
  full : Bool := false
  deriving DecidableEq, Repr

/-- The four counters of an account and of the house account (R83). -/
structure Counters where
  monoSides : Meter := {}
  colourSides : Meter := {}
  scanPages : Meter := {}
  pointsCharged : Meter := {}
  deriving DecidableEq, Repr

/-- The thirteen device meters, in the order of their numbers (R76). -/
structure Meters where
  monoSides : Meter := {}
  colourSides : Meter := {}
  duplexSheets : Meter := {}
  totalSheets : Meter := {}
  scanPages : Meter := {}
  unattributedSheets : Meter := {}
  damagedRecords : Meter := {}
  lostRecords : Meter := {}
  pointsCharged : Meter := {}
  arrearsPoints : Meter := {}
  cartridgesRejected : Meter := {}
  untrackedPlaneSides : Meter := {}
  tamperEvents : Meter := {}
  deriving DecidableEq, Repr

/-! ## Accounts and the session (chapter 01) -/

inductive Role where
  | user | admin
  deriving DecidableEq, Repr

inductive AccountState where
  | active | suspended | locked
  deriving DecidableEq, Repr

inductive ColourRight where
  | full | mono
  deriving DecidableEq, Repr

/-- Credit stage (R56). -/
inductive Stage where
  | full | limited | stopped
  deriving DecidableEq, Repr

/-- A user account record (R2). -/
structure Account where
  userNumber : Nat
  role : Role
  state : AccountState
  pin : Option (List Byte)
  failures : Nat
  colourRight : ColourRight
  boxRight : Bool
  balance : Nat
  arrears : Nat
  stage : Stage
  counters : Counters
  deriving DecidableEq, Repr

/-- The OPEN session: its account's position and the idle time in ms (R13, R15). -/
structure Session where
  position : Nat
  idle : Nat
  deriving DecidableEq, Repr

inductive SessionEndCause where
  | logout | idle | accountChange | factoryClear | tamper
  deriving DecidableEq, Repr

/-! ## Rates and the charge (chapter 02) -/

structure PrintRate where
  base : Nat
  step : Nat
  deriving DecidableEq, Repr

/-- The rate table and the area table (R18, R19). -/
structure Rates where
  print : Vector PrintRate 32
  scan : Vector Nat 8
  area : Vector Nat 8
  deriving DecidableEq, Repr

inductive ColourClass where
  | mono | colour
  deriving DecidableEq, Repr

inductive SidePosition where
  | front | back
  deriving DecidableEq, Repr

/-- Kilodots of one side on the four planes (R25). -/
structure Dots where
  k : Nat
  c : Nat
  m : Nat
  y : Nat
  deriving DecidableEq, Repr

/-- The charge result of one side (R29). -/
structure SideCharge where
  position : SidePosition
  colourClass : ColourClass
  covK : Nat
  covC : Nat
  covM : Nat
  covY : Nat
  total : Nat
  excess : Nat
  entry : Nat
  base : Nat
  step : Nat
  charge : Nat
  ceiling : Bool
  deriving DecidableEq, Repr

/-- The charge result of a sheet (R29). -/
structure ChargeResult where
  charge : Nat
  sides : List SideCharge
  deriving DecidableEq, Repr

/-! ## Jobs (chapter 03) -/

inductive JobKind where
  | copy | print | scan | boxPrint
  deriving DecidableEq, Repr

inductive JobState where
  | opened | running | stopping | closing
  deriving DecidableEq, Repr

inductive StopCause where
  | credit | sessionEnd | sheetLimit | tamper
  deriving DecidableEq, Repr

inductive EndMark where
  | complete | unsettled | abandoned
  deriving DecidableEq, Repr

inductive DocOutcome where
  | stored | kept | erased | gone
  deriving DecidableEq, Repr

/-- A job record (R34). The drain timer holds its elapsed ms while it runs. -/
structure Job where
  number : Nat
  kind : JobKind
  owner : Nat
  sizeClass : Nat
  colourClass : ColourClass
  duplex : Bool
  state : JobState
  stopCause : Option StopCause
  engineEnded : Bool
  initialHold : Nat
  holdRemaining : Nat
  short : Bool
  sheets : Nat
  monoSides : Nat
  colourSides : Nat
  scanPages : Nat
  pointsCharged : Nat
  pointsDrawn : Nat
  pointsArrears : Nat
  colourUnexpected : Bool
  stream : Option (Fin 4)
  document : Option Nat
  eraseAfterPrint : Bool
  scanComplete : Bool
  drain : Option Nat
  deriving DecidableEq, Repr

/-- The job table and the last job number assigned (R34, R35). -/
structure JobTable where
  jobs : Table Job
  lastNumber : Nat
  deriving DecidableEq, Repr

/-! ## The sheet queue (chapter 04) -/

/-- The fields of a good SHEET record (R60). -/
structure SheetRecord where
  tag : Nat
  sizeClass : Nat
  side1 : Dots
  side2 : Option Dots
  deriving DecidableEq, Repr

inductive QueueEntry where
  | sheet (r : SheetRecord)
  | jobEnd (tag : Nat)
  | damaged
  deriving DecidableEq, Repr

/-- The sheet queue (R62, R65, R66). -/
structure SheetQueue where
  entries : List QueueEntry
  hold : Bool
  taking : Bool
  deriving DecidableEq, Repr

/-! ## The cartridge unit (chapters 06 and 07) -/

inductive SlotState where
  | empty | identifying | genuine | suspect | silent | rejected
  deriving DecidableEq, Repr

inductive Level where
  | out | low | normal
  deriving DecidableEq, Repr

/-- The requests a slot holds for the line (R89). -/
structure Requests where
  identify : Bool := false
  challenge : Bool := false
  debit : Bool := false
  deriving DecidableEq, Repr

/-- The job and user whose sheet last advanced a slot (R86). -/
structure Attribution where
  job : Nat
  user : Nat
  deriving DecidableEq, Repr

/-- A slot record (R86) with the flush timer of R112, the level of R116 and the retained items of R87.
Timers hold their elapsed ms while they run. -/
structure Slot where
  present : Bool := false
  state : SlotState := .empty
  serial : Option Serial := none
  ratedYield : Option Nat := none
  tagRemaining : Option Nat := none
  pending : Nat := 0
  unconfirmed : Option Nat := none
  sinceVerify : Nat := 0
  sinceInsertion : Nat := 0
  attribution : Option Attribution := none
  fails : Nat := 0
  unanswered : Nat := 0
  remembered : Option SlotState := none
  requests : Requests := {}
  recheck : Option Nat := none
  flush : Option Nat := none
  level : Option Level := none
  retainedSerial : Option Serial := none
  retainedFails : Nat := 0
  deriving DecidableEq, Repr

/-- What a transaction carries: nothing, its challenge with the response expected, or its amount (R91, R95). -/
inductive LineWork where
  | identify
  | challenge (bytes : BitVec 64) (expected : BitVec 64)
  | debit (amount : Nat)
  deriving DecidableEq, Repr

/-- The transaction in progress, with the ms since its grant (R91). -/
structure Transaction where
  slot : Fin 4
  work : LineWork
  elapsed : Nat := 0
  deriving DecidableEq, Repr

/-- A fault snapshot (R106). -/
structure Snapshot where
  slot : Fin 4
  serial : Serial
  fails : Nat
  failLimit : Nat
  sinceInsertion : Nat
  view : Nat
  totalSheets : Meter
  attribution : Option Attribution
  deriving DecidableEq, Repr

/-- The cartridge unit (R86, R90, R104, R106, R118). -/
structure CartUnit where
  slots : Four Slot
  lastServed : Fin 4
  transaction : Option Transaction
  rejectList : List Serial
  snapshots : List Snapshot
  mono : Bool
  colour : Bool
  /-- The MODEL's own: the slots whose level a recomputation within the event has moved, for TONER_LEVEL at its end (R117;
  log 16). -/
  levelMoved : Four Bool := { a0 := false, a1 := false, a2 := false, a3 := false }
  deriving DecidableEq, Repr

inductive CartCause where
  | inserted | removed | identified | pass | fail | tagMismatch | unanswered | answered
  | listed | limit | newSerial
  deriving DecidableEq, Repr

/-! ## The buffer pool (chapter 08) -/

/-- The bytes of the pool: rising addresses, zero bytes not listed. -/
abbrev Memory := List (Nat × Byte)

/-- A run of neighbouring blocks. -/
structure BlockRange where
  first : Nat
  count : Nat
  deriving DecidableEq, Repr

/-- What the fill engine is clearing (R129). A half keeps its blocks, and is `live` until its halt fill is given up (R127). -/
inductive FillItem where
  | full
  | half (stream : Fin 4) (half : Bool) (blocks : BlockRange) (live : Bool)
  | range
  deriving DecidableEq, Repr

/-- The buffer pool (R123, R126, R129, R133). `underReset` holds while every block is under RESET. -/
structure Pool where
  mem : Memory
  wipe : List BlockRange
  fill : Option FillItem
  waiting : List (Fin 4 × Bool)
  underReset : Bool
  deriving DecidableEq, Repr

/-- Who owns a block (R123). -/
inductive BlockOwner where
  | free
  | stream (i : Fin 4)
  | wipe
  | reset
  deriving DecidableEq, Repr

inductive WipeCause where
  | reset | list
  deriving DecidableEq, Repr

/-! ## Documents and tamper (chapter 09) -/

inductive DocState where
  | writing | stored
  deriving DecidableEq, Repr

/-- A document record (R136). -/
structure Document where
  number : Nat
  owner : Nat
  state : DocState
  key : Key
  pages : Nat
  bands : Nat
  colour : Bool
  sizeClass : Nat
  job : Option Nat
  deriving DecidableEq, Repr

/-- The document store, in creation order, and the last number assigned (R136, R138). -/
structure DocStore where
  docs : List Document
  lastNumber : Nat
  deriving DecidableEq, Repr

/-- The tamper latch and the monitor's view of the TAMPER input (R146). -/
structure TamperMonitor where
  latch : Bool
  input : Bool
  deriving DecidableEq, Repr

/-! ## Streams, ports and the cipher unit (chapter 10) -/

inductive StreamKind where
  | encode | release
  deriving DecidableEq, Repr

inductive StreamState where
  | idle | hold | flow | halt | done
  deriving DecidableEq, Repr

inductive HaltCause where
  | sessionEnd | credit | toner | idle | check | overrun | sequence | auth | oversize | tamper
  deriving DecidableEq, Repr

inductive HalfState where
  | empty | filled | cipher | sending
  deriving DecidableEq, Repr

/-- The header of the band a half holds (R149). -/
structure BandHeader where
  flags : Byte
  sizeClass : Nat
  length : Nat
  band : Nat
  page : Nat
  deriving DecidableEq, Repr

/-- One half of a window: its state, its band's header and tag, and whether its halt fill is still to be done (R131). -/
structure Half where
  state : HalfState := .empty
  header : Option BandHeader := none
  tag : Option (BitVec 64) := none
  waiting : Bool := false
  deriving DecidableEq, Repr

/-- A stream's window (R124). -/
structure Window where
  first : Nat
  perHalf : Nat
  halves : Nat
  deriving DecidableEq, Repr

/-- A stream record (R149). `stored` tells whether a band has been stored since bind or CLEAR (R152, R160);
`lastSent` is the number of the last band sent or being sent since bind (R168). -/
structure Stream where
  kind : Option StreamKind := none
  state : StreamState := .idle
  job : Option Nat := none
  document : Option Nat := none
  window : Option Window := none
  half0 : Half := {}
  half1 : Half := {}
  intake : Bool := false
  output : Bool := false
  seqBit : Bool := false
  nextBand : Nat := 0
  page : Nat := 0
  pageStart : Bool := false
  pageClass : Nat := 0
  lastBand : Bool := false
  haltCause : Option HaltCause := none
  bands : Nat := 0
  pages : Nat := 0
  duplicates : Nat := 0
  refused : Nat := 0
  checkErrors : Nat := 0
  idle : Option Nat := none
  stored : Bool := false
  lastSent : Option Nat := none
  deriving DecidableEq, Repr

/-- A band frame that is arriving, and whether its payload is being written into the intake half (R157). -/
structure ScanArrival where
  header : ScanHeader
  writing : Bool
  deriving DecidableEq, Repr

/-- An image frame that is arriving, the RELEASE stream it was routed to, and whether it is being written (R161). -/
structure ImgArrival where
  header : ImgHeader
  stream : Option (Fin 4)
  writing : Bool
  deriving DecidableEq, Repr

/-- The two inbound ports: the arrivals in progress and the last answers given. -/
structure Ports where
  scan : Option ScanArrival
  img : Option ImgArrival
  scanAnswer : Option Answer
  imgAnswer : Option Answer
  deriving DecidableEq, Repr

/-- The half that the cipher unit holds (R162). -/
structure CipherWork where
  stream : Fin 4
  half : Bool
  deriving DecidableEq, Repr

structure CipherUnit where
  work : Option CipherWork
  lastServed : Fin 4
  deriving DecidableEq, Repr

/-! ## Settings (chapter 11) -/

inductive BoxPolicy where
  | keep | recycle
  deriving DecidableEq, Repr

/-- The thirteen settings, in the order of their numbers. -/
structure Settings where
  caution : Nat
  stop : Nat
  hysteresis : Nat
  sessionIdle : Nat
  freeCoverage : Nat
  verifyInterval : Nat
  failLimit : Nat
  recheckPeriod : Nat
  lowMark : Nat
  streamIdle : Nat
  drainLimit : Nat
  boxPolicy : BoxPolicy
  ownerCap : Nat
  deriving DecidableEq, Repr

/-! ## Notices and the link (chapter 11) -/

/-- The JOB_DONE summary (R54). -/
structure JobSummary where
  number : Nat
  kind : JobKind
  user : Nat
  endMark : EndMark
  stopCause : Option StopCause
  initialHold : Nat
  short : Bool
  holdReleased : Nat
  sheets : Nat
  monoSides : Nat
  colourSides : Nat
  scanPages : Nat
  pointsCharged : Nat
  pointsDrawn : Nat
  pointsArrears : Nat
  colourUnexpected : Bool
  document : Option Nat
  outcome : Option DocOutcome
  deriving DecidableEq, Repr

/-- The content of STREAM_HALT (R168). -/
structure HaltReport where
  stream : Fin 4
  kind : Option StreamKind
  job : Option Nat
  document : Option Nat
  cause : HaltCause
  nextBand : Nat
  page : Nat
  bands : Nat
  pages : Nat
  duplicates : Nat
  refused : Nat
  deriving DecidableEq, Repr

/-- The content of STREAM_DONE (R166). -/
structure DoneReport where
  stream : Fin 4
  job : Option Nat
  document : Option Nat
  bands : Nat
  pages : Nat
  duplicates : Nat
  refused : Nat
  deriving DecidableEq, Repr

/-- The content of CARTRIDGE_STATE (R108). -/
structure CartReport where
  slot : Fin 4
  before : SlotState
  now : SlotState
  serial : Option Serial
  fails : Nat
  failLimit : Nat
  cause : CartCause
  discarded : Nat
  deriving DecidableEq, Repr

/-- The content of TONER_LEVEL (R117). -/
structure LevelReport where
  slot : Fin 4
  before : Option Level
  now : Option Level
  serial : Option Serial
  view : Option Nat
  tagRemaining : Option Nat
  pending : Nat
  ratedYield : Option Nat
  deriving DecidableEq, Repr

/-- One plane of COLOUR_AVAILABILITY (R119). -/
structure PlaneReport where
  usable : Bool
  state : SlotState
  level : Option Level
  deriving DecidableEq, Repr

/-- The content of COLOUR_AVAILABILITY (R119). -/
structure AvailabilityReport where
  monoBefore : Bool
  colourBefore : Bool
  monoNow : Bool
  colourNow : Bool
  planes : Four PlaneReport
  deriving DecidableEq, Repr

/-- The content of TAMPER (R147). -/
structure TamperReport where
  events : Nat
  erased : Nat
  sessionEnded : Bool
  meter : Meter
  latch : Bool
  deriving DecidableEq, Repr

/-- A notice: its kind and subject with the content its rule names (chapter 11, Notice kinds). -/
inductive Notice where
  | restart (cause : ResetCause) (writingErased : Nat) (tamperEvents : Meter) (latch : Bool)
  | sessionEnd (cause : SessionEndCause) (user : Nat)
  | stageChange (position : Nat) (user : Nat) (old : Stage) (new : Stage) (available : Nat)
  | jobStop (job : Nat) (user : Nat) (cause : StopCause)
  | jobDone (summary : JobSummary)
  | colourUnexpected (job : Nat) (user : Nat)
  | streamHalt (report : HaltReport)
  | streamDone (report : DoneReport)
  | cartridgeState (report : CartReport)
  | tonerLevel (report : LevelReport)
  | colourAvailability (report : AvailabilityReport)
  | queueOverrun (lost : Nat) (meter : Meter)
  | wipeDone (cause : WipeCause) (free : Nat)
  | tamper (report : TamperReport)
  deriving DecidableEq, Repr

/-- A reply waiting or being sent: its class and its body (R173). -/
structure Reply where
  replyClass : Byte
  body : List Byte
  deriving DecidableEq, Repr

/-- The two slots a reply can wait in (R172). -/
inductive ReplySlot where
  | request
  | refusal
  deriving DecidableEq, Repr

/-- What CMD TX is sending (R174). -/
inductive TxState where
  | idle
  | reply (slot : ReplySlot)
  | notice (n : Notice)
  deriving DecidableEq, Repr

/-- The link interface (R172, R174, R175). -/
structure Link where
  requestSlot : Option Reply
  refusalSlot : Option Reply
  ready : List ReplySlot
  tx : TxState
  notices : List Notice
  lostNotices : Nat
  discarded : Nat
  deriving DecidableEq, Repr

/-- A supply reset that has not ended: its cause, the WRITING documents erased and the tamper events taken in it (R147, R180). -/
structure ResetPhase where
  cause : ResetCause
  writingErased : Nat
  tamperEvents : Nat
  tamperErased : Nat
  deriving DecidableEq, Repr

end Sys2Proof.Machine
end

