-- ==== Sys2Proof/Syntax.lean ====
section
/-! DEFINITION. The commands: one constructor per row of spec/opcode_table.json, in the table's order.
A host request carries the body of its frame; an event on a line carries what came on the line (log 1). -/

namespace Sys2Proof

open Machine

/-- A command of the table. -/
inductive Instr where
  | login (body : List Byte)
  | logout (body : List Byte)
  | touch (body : List Byte)
  | accountAdd (body : List Byte)
  | accountChange (body : List Byte)
  | accountUnlock (body : List Byte)
  | accountRemove (body : List Byte)
  | credit (body : List Byte)
  | accountRead (body : List Byte)
  | rateSet (body : List Byte)
  | areaSet (body : List Byte)
  | rateRead (body : List Byte)
  | rateQuote (body : List Byte)
  | jobOpen (body : List Byte)
  | jobClose (body : List Byte)
  | jobRead (body : List Byte)
  | queueRead (body : List Byte)
  | meterRead (body : List Byte)
  | slotRead (body : List Byte)
  | snapshotRead (body : List Byte)
  | rejectRemove (body : List Byte)
  | poolRead (body : List Byte)
  | streamBind (body : List Byte)
  | streamFlow (body : List Byte)
  | streamHold (body : List Byte)
  | streamClear (body : List Byte)
  | streamRelease (body : List Byte)
  | streamRead (body : List Byte)
  | documentErase (body : List Byte)
  | documentList (body : List Byte)
  | tamperClear (body : List Byte)
  | settingSet (body : List Byte)
  | settingRead (body : List Byte)
  | statusRead (body : List Byte)
  | factoryClear (body : List Byte)
  /-- The bytes that came on CMD RX, up to the end of the frame. -/
  | frameError (line : List LineByte)
  | frameWhileSlotOccupied (line : List LineByte)
  /-- The bytes that came on CMD RX before the gap. -/
  | cmdGapExpiry (line : List LineByte)
  | cmdTxSendComplete
  /-- The bytes that came on ENG RX, up to the end of the record. -/
  | engineRecordArrival (line : List LineByte)
  | engineGapExpiry (line : List LineByte)
  | takeSheet
  | takeJobEnd
  | takeDamaged
  | drainExpiry (job : Nat)
  | sessionIdleExpiry
  | cartInserted (slot : Fin 4)
  | cartRemoved (slot : Fin 4)
  /-- The bytes the tag returned, its check bytes last. -/
  | cartIdentifyAnswer (answer : List Byte)
  | cartChallengeAnswer (answer : List Byte)
  | cartDebitAnswer (answer : List Byte)
  | cartBadAnswer (answer : List Byte)
  | cartAnswerTimeout
  | recheckExpiry (slot : Fin 4)
  | flushExpiry (slot : Fin 4)
  | tamperEvent
  | tamperRelease
  | scanArrivalBegin (header : ScanHeader)
  | scanFrameEnd (tail : ScanTail)
  | scanGapExpiry
  | imgArrivalBegin (header : ImgHeader)
  | imgFrameEnd (tail : ImgTail)
  | imgGapExpiry
  | cipherEncodeComplete
  | cipherReleaseComplete
  | imgSendComplete
  | videoSendComplete
  | streamIdleExpiry (stream : Fin 4)
  | haltFillHalfComplete
  | wipeRangeComplete
  | fullFillComplete
  | supplyReset (cause : ResetCause)
  | resetEnd
  deriving DecidableEq, Repr

end Sys2Proof
end

