-- ==== Sys2Proof/Machine/Operands.lean ====
section
/-! DEFINITION. Byte layouts (chapter 11): numbers and fields, the check of R171, the framing of R170 and R60,
the bodies of the host's requests, the records of the engine line and the answers of the tags. -/

namespace Sys2Proof.Machine

/-! ## Numbers: most significant byte first (Byte layouts) -/

/-- `n` bytes of a number, most significant first. -/
def be : Nat → Nat → List Byte
  | 0, _ => []
  | n + 1, v => BitVec.ofNat 8 (v / 256 ^ n) :: be n v

/-- The number that bytes spell, most significant first. -/
def num (bs : List Byte) : Nat := bs.foldl (fun acc b => acc * 256 + b.toNat) 0

/-- A flag, mark or two-valued item: 1 when it is set, asserted, present or yes (log 20). -/
def flag (b : Bool) : List Byte := [if b then 1 else 0]

/-- A field that may be absent: a flag byte and then its bytes, zero when it is absent (R181). -/
def optField {α : Type} (width : Nat) (bytes : α → List Byte) (x : Option α) : List Byte :=
  match x with
  | none => 0 :: List.replicate width 0
  | some a => 1 :: bytes a

/-- A number of `width` bytes that may be absent (R181). -/
def optNum (width : Nat) (x : Option Nat) : List Byte := optField width (be width) x

/-- A 64-bit value, most significant byte first. -/
def wordBytes (w : BitVec 64) : List Byte := be 8 w.toNat

/-- A list whose number of items varies: the number, in one byte, and the items (R181). -/
def listField {α : Type} (bytes : α → List Byte) (xs : List α) : List Byte :=
  be 1 xs.length ++ xs.flatMap bytes

/-! ## Enumerations, numbered from 0 in the order their chapters list them -/

def Status.code : Status → Byte
  | .ok => 0 | .busy => 1 | .frameError => 2 | .unknown => 3 | .malformed => 4 | .range => 5
  | .notPermitted => 6 | .noSession => 7 | .sessionBusy => 8 | .noAccount => 9 | .suspended => 10
  | .locked => 11 | .badPin => 12 | .duplicate => 13 | .tableFull => 14 | .noCredit => 15
  | .colourLimited => 16 | .tonerUnavailable => 17 | .storeFull => 18 | .noDocument => 19
  | .inUse => 20 | .overlap => 21 | .tampered => 22

def Role.code : Role → Nat
  | .user => 0 | .admin => 1
def AccountState.code : AccountState → Nat
  | .active => 0 | .suspended => 1 | .locked => 2
def ColourRight.code : ColourRight → Nat
  | .full => 0 | .mono => 1
def Stage.code : Stage → Nat
  | .full => 0 | .limited => 1 | .stopped => 2
def ColourClass.code : ColourClass → Nat
  | .mono => 0 | .colour => 1
def SidePosition.code : SidePosition → Nat
  | .front => 0 | .back => 1
def JobKind.code : JobKind → Nat
  | .copy => 0 | .print => 1 | .scan => 2 | .boxPrint => 3
def JobState.code : JobState → Nat
  | .opened => 0 | .running => 1 | .stopping => 2 | .closing => 3
def StopCause.code : StopCause → Nat
  | .credit => 0 | .sessionEnd => 1 | .sheetLimit => 2 | .tamper => 3
def EndMark.code : EndMark → Nat
  | .complete => 0 | .unsettled => 1 | .abandoned => 2
def DocOutcome.code : DocOutcome → Nat
  | .stored => 0 | .kept => 1 | .erased => 2 | .gone => 3
def SessionEndCause.code : SessionEndCause → Nat
  | .logout => 0 | .idle => 1 | .accountChange => 2 | .factoryClear => 3 | .tamper => 4
def QueueEntry.code : QueueEntry → Nat
  | .sheet _ => 0 | .jobEnd _ => 1 | .damaged => 2
def SlotState.code : SlotState → Nat
  | .empty => 0 | .identifying => 1 | .genuine => 2 | .suspect => 3 | .silent => 4 | .rejected => 5
def Level.code : Level → Nat
  | .out => 0 | .low => 1 | .normal => 2
def CartCause.code : CartCause → Nat
  | .inserted => 0 | .removed => 1 | .identified => 2 | .pass => 3 | .fail => 4 | .tagMismatch => 5
  | .unanswered => 6 | .answered => 7 | .listed => 8 | .limit => 9 | .newSerial => 10
def LineWork.code : LineWork → Nat
  | .identify => 0 | .challenge _ _ => 1 | .debit _ => 2
def StreamKind.code : StreamKind → Nat
  | .encode => 0 | .release => 1
def StreamState.code : StreamState → Nat
  | .idle => 0 | .hold => 1 | .flow => 2 | .halt => 3 | .done => 4
def HaltCause.code : HaltCause → Nat
  | .sessionEnd => 0 | .credit => 1 | .toner => 2 | .idle => 3 | .check => 4 | .overrun => 5
  | .sequence => 6 | .auth => 7 | .oversize => 8 | .tamper => 9
def HalfState.code : HalfState → Nat
  | .empty => 0 | .filled => 1 | .cipher => 2 | .sending => 3
def DocState.code : DocState → Nat
  | .writing => 0 | .stored => 1
def BoxPolicy.code : BoxPolicy → Nat
  | .keep => 0 | .recycle => 1
def WipeCause.code : WipeCause → Nat
  | .reset => 0 | .list => 1
def ResetCause.code : ResetCause → Nat
  | .resetInput => 0 | .supply => 1

/-- SCAN ANSWER and IMG ANSWER bytes: ACCEPT 1, REFUSE 2, REFUSE with cause CHECK 3. -/
def Answer.code : Answer → Byte
  | .accept => 1 | .refuse => 2 | .refuseCheck => 3

/-- One byte of an enumeration. -/
def enumByte (n : Nat) : List Byte := be 1 n

/-- An enumeration that may be absent. -/
def optEnum (x : Option Nat) : List Byte := optNum 1 x

/-- The eight decimal digits of a value as four bytes, two digits each, most significant first (METER READ). -/
def packedDigits (v : Nat) : List Byte :=
  [6, 4, 2, 0].map fun e => BitVec.ofNat 8 (v / 10 ^ (e + 1) % 10 * 16 + v / 10 ^ e % 10)

/-- A meter or counter: packed digits and its FULL flag (R181). -/
def Meter.bytes (m : Meter) : List Byte := packedDigits m.value ++ flag m.full

def Counters.bytes (c : Counters) : List Byte :=
  c.monoSides.bytes ++ c.colourSides.bytes ++ c.scanPages.bytes ++ c.pointsCharged.bytes

/-! ## The check of every frame (R171) -/

/-- One bit of the cyclic check with polynomial x^16 + x^15 + x^2 + 1. -/
def crcBit (r : BitVec 16) : BitVec 16 := if r.msb then (r <<< 1) ^^^ 0x8005#16 else r <<< 1

/-- One byte into the check, most significant bit first. -/
def crcByte (r : BitVec 16) (b : Byte) : BitVec 16 :=
  let x := r ^^^ (b.setWidth 16 <<< 8)
  crcBit (crcBit (crcBit (crcBit (crcBit (crcBit (crcBit (crcBit x)))))))

/-- The check over bytes: the register starts at all ones and the result is not inverted. -/
def crc (bs : List Byte) : BitVec 16 := bs.foldl crcByte 0xFFFF#16

/-- Two check bytes, high byte first. -/
def checkBytes (c : BitVec 16) : List Byte := be 2 c.toNat

/-! ## Framing -/

/-- What has come on a line: nothing of a frame, part of one, a broken one, or a complete one with the bytes its
check covers, and whether the check is good. -/
inductive Received where
  | hunting
  | partly
  | broken
  | complete (covered : List Byte) (good : Bool)
  deriving DecidableEq, Repr

/-- `n` bytes taken from a line: too few have come, one has a stop-bit error, or all. -/
inductive LineTake where
  | short
  | stopError
  | all (bytes : List Byte)
  deriving DecidableEq, Repr

def takeLine : Nat → List LineByte → LineTake
  | 0, _ => .all []
  | _ + 1, [] => .short
  | n + 1, b :: rest =>
    if b.stopOk then
      match takeLine n rest with
      | .all bs => .all (b.value :: bs)
      | .short => .short
      | .stopError => .stopError
    else .stopError

/-- The `n` bytes after a length field, then the two check bytes. -/
def takeChecked (lengthBytes : List Byte) (n : Nat) (rest : List LineByte) : Received :=
  match takeLine (n + 2) rest with
  | .short => .partly
  | .stopError => .broken
  | .all bs => .complete (lengthBytes ++ bs.take n) (checkBytes (crc (lengthBytes ++ bs.take n)) == bs.drop n)

/-- A command link frame after its start byte (R170): a two-byte length of at most 2,040, the class, the body, the check. -/
def afterCommandStart (line : List LineByte) : Received :=
  match takeLine 2 line with
  | .short => .partly
  | .stopError => .broken
  | .all len => if num len > Config.maxBody then .broken else takeChecked len (num len + 1) (line.drop 2)

/-- A command link frame (R170): bytes other than the start byte 165 are discarded while hunting, a 165 with a stop-bit error
among them (log 39). -/
def receiveCommand : List LineByte → Received
  | [] => .hunting
  | b :: rest => if b.stopOk && b.value == 165 then afterCommandStart rest else receiveCommand rest

/-- An engine line record after its start byte (R60): a one-byte length, so many bytes, the check. -/
def afterEngineStart (line : List LineByte) : Received :=
  match takeLine 1 line with
  | .short => .partly
  | .stopError => .broken
  | .all len => takeChecked len (num len) (line.drop 1)

/-- An engine line record: start byte 90 (R60), a 90 with a stop-bit error discarded while hunting (log 39). -/
def receiveRecord : List LineByte → Received
  | [] => .hunting
  | b :: rest => if b.stopOk && b.value == 90 then afterEngineStart rest else receiveRecord rest

/-- The bytes of a command link frame (chapter 11, Command link frame). -/
def commandFrame (cls : Byte) (body : List Byte) : List Byte :=
  let covered := be 2 body.length ++ cls :: body
  165 :: covered ++ checkBytes (crc covered)

/-- Bytes that arrive without stop-bit errors. -/
def goodLine (bs : List Byte) : List LineByte := bs.map fun b => { value := b }

/-- The class and body of a complete frame's covered bytes. -/
def classAndBody (covered : List Byte) : Option (Byte × List Byte) :=
  match covered.drop 2 with
  | cls :: body => some (cls, body)
  | [] => none

/-- The class of the reply to a class: the class plus 128 where a byte holds it (R172, R173; log 19). -/
def replyClass (cls : Byte) : Byte :=
  if cls.toNat < 128 then cls + 128 else Config.replyClassAbove cls.toNat

/-! ## Engine line records (R60, R61) -/

/-- Four dot counts of three bytes each. -/
def dotsOf (bs : List Byte) : Dots :=
  { k := num (bs.take 3), c := num ((bs.drop 3).take 3), m := num ((bs.drop 6).take 3), y := num ((bs.drop 9).take 3) }

def Dots.bytes (d : Dots) : List Byte := be 3 d.k ++ be 3 d.c ++ be 3 d.m ++ be 3 d.y

/-- A SHEET record's fields after its kind: 16 or 28 bytes by its side count, size class 0 to 7 (R61). -/
def sheetOf (fields : List Byte) : QueueEntry :=
  match fields with
  | t1 :: t0 :: size :: sides :: dots =>
    if size.toNat > 7 then .damaged
    else if sides == 1 && dots.length == 12 then
      .sheet { tag := num [t1, t0], sizeClass := size.toNat, side1 := dotsOf dots, side2 := none }
    else if sides == 2 && dots.length == 24 then
      .sheet { tag := num [t1, t0], sizeClass := size.toNat, side1 := dotsOf dots, side2 := some (dotsOf (dots.drop 12)) }
    else .damaged
  | _ => .damaged

/-- The entry a record of good check becomes: kind SHEET 1 or JOB_END 2 of the right length, else DAMAGED (R61). -/
def recordEntry (fields : List Byte) : QueueEntry :=
  match fields with
  | kind :: rest =>
    if kind == 1 then sheetOf rest
    else if kind == 2 && rest.length == 2 then .jobEnd (num rest)
    else .damaged
  | [] => .damaged

/-- The bytes of an engine line record, given its fields from the kind on. -/
def engineRecord (fields : List Byte) : List Byte :=
  let covered := be 1 fields.length ++ fields
  90 :: covered ++ checkBytes (crc covered)

/-- The fields of a SHEET record, from the kind on. -/
def SheetRecord.fields (r : SheetRecord) : List Byte :=
  1 :: be 2 r.tag ++ be 1 r.sizeClass ++ be 1 (if r.side2.isSome then 2 else 1) ++ r.side1.bytes
    ++ (match r.side2 with | none => [] | some d => d.bytes)

/-! ## Tag answers (chapter 11, Cartridge line transactions) -/

/-- The fields of an answer of `n` bytes and two check bytes, where its length is right and its check good (R91). -/
def answerFields (n : Nat) (answer : List Byte) : Option (List Byte) :=
  if answer.length = n + 2 ∧ checkBytes (crc (answer.take n)) = answer.drop n then some (answer.take n) else none

/-- The bytes of an answer or of a request on the cartridge line: its fields and their check. -/
def lineMessage (fields : List Byte) : List Byte := fields ++ checkBytes (crc fields)

/-- What the part sends for a transaction (R91). -/
def LineWork.sent : LineWork → List Byte
  | .identify => lineMessage [1]
  | .challenge c _ => lineMessage (2 :: wordBytes c)
  | .debit n => lineMessage (3 :: be 4 n)

/-! ## Band and image frames -/

def ScanHeader.bytes (h : ScanHeader) : List Byte := [h.stream, h.flags, h.sizeClass] ++ be 2 h.length.toNat

def ImgHeader.bytes (h : ImgHeader) : List Byte :=
  be 2 h.document.toNat ++ be 2 h.band.toNat ++ be 2 h.page.toNat ++ [h.flags, h.sizeClass] ++ be 2 h.length.toNat

/-- A payload length rounded up to whole 16-byte units (R161). -/
def roundUnits (p : Nat) : Nat := (p + 15) / 16 * 16

/-- Whether a band frame's check and fields are good: a length of 0 or a size class above 7 counts as a failed check (R157). -/
def scanCheckGood (h : ScanHeader) : ScanTail → Bool
  | .stopBitError => false
  | .complete payload check =>
    payload.length == h.length.toNat && crc (h.bytes ++ payload) == check && h.length != 0 && decide (h.sizeClass.toNat ≤ 7)

/-- Whether an image frame's check is good (R161). -/
def imgCheckGood (h : ImgHeader) : ImgTail → Bool
  | .stopBitError => false
  | .complete ciphertext tag check =>
    ciphertext.length == roundUnits h.length.toNat && crc (h.bytes ++ ciphertext ++ wordBytes tag) == check

/-- Flag bits of band, image and video frames. -/
def flagSeq (f : Byte) : Bool := f.getLsbD 0
def flagFirstOfPage (f : Byte) : Bool := f.getLsbD 1
def flagLastOfPage (f : Byte) : Bool := f.getLsbD 2
def flagLastOfDocument (f : Byte) : Bool := f.getLsbD 3
def flagColour (f : Byte) : Bool := f.getLsbD 4

/-- The marks of a flags byte, bit 0 and bits 5 to 7 clear. -/
def marksOf (f : Byte) : Byte := f &&& 0x1E#8

/-! ## Bodies of the host's requests

A body of the wrong length or with an illegal enumeration gives `none`, which the link interface answers MALFORMED (R173). -/

def flagOf (b : Byte) : Option Bool := if b = 0 then some false else if b = 1 then some true else none
def roleOf (b : Byte) : Option Role := if b = 0 then some .user else if b = 1 then some .admin else none
def accountStateOf (b : Byte) : Option AccountState :=
  if b = 0 then some .active else if b = 1 then some .suspended else if b = 2 then some .locked else none
def colourRightOf (b : Byte) : Option ColourRight := if b = 0 then some .full else if b = 1 then some .mono else none
def colourClassOf (b : Byte) : Option ColourClass := if b = 0 then some .mono else if b = 1 then some .colour else none
def sizeClassOf (b : Byte) : Option (Fin 8) := if h : b.toNat < 8 then some ⟨b.toNat, h⟩ else none
def jobKindOf (b : Byte) : Option JobKind :=
  if b = 0 then some .copy else if b = 1 then some .print else if b = 2 then some .scan else if b = 3 then some .boxPrint else none
def boxPolicyOf (n : Nat) : Option BoxPolicy := if n = 0 then some .keep else if n = 1 then some .recycle else none

/-- An empty body. -/
def parseEmpty (body : List Byte) : Option Unit := if body = [] then some () else none

/-- PIN digits: those within the length, each 0 to 9; unused bytes are ignored. -/
def pinDigits (length : Byte) (digits : List Byte) : Option (List Byte) :=
  let used := digits.take length.toNat
  if used.all (fun d => decide (d.toNat ≤ 9)) then some used else none

/-- LOGIN: user number, PIN of 0 to 8 digits (R14). -/
structure LoginRequest where
  user : Nat
  pin : List Byte
  deriving DecidableEq, Repr

def parseLogin (body : List Byte) : Option LoginRequest :=
  if body.length = 13 then
    match body.drop 4 with
    | len :: digits =>
      if len.toNat ≤ 8 then
        match pinDigits len digits with
        | some pin => some { user := num (body.take 4), pin := pin }
        | none => none
      else none
    | [] => none
  else none

/-- The PIN field of ACCOUNT ADD and ACCOUNT CHANGE: none, the digits, or a length out of range (R6, R7). -/
inductive PinField where
  | absent
  | digits (pin : List Byte)
  | badLength
  deriving DecidableEq, Repr

/-- A PIN length byte and eight digit bytes; a length other than 0 and 4 to 8 is out of range. -/
def parsePin (bytes : List Byte) : Option PinField :=
  match bytes with
  | len :: digits =>
    match pinDigits len digits with
    | none => none
    | some pin =>
      if len = 0 then some .absent
      else if 4 ≤ len.toNat ∧ len.toNat ≤ 8 then some (.digits pin) else some .badLength
  | [] => none

/-- ACCOUNT ADD (R6). -/
structure AddRequest where
  user : Nat
  role : Role
  colourRight : ColourRight
  boxRight : Bool
  pin : PinField
  deriving DecidableEq, Repr

def parseAccountAdd (body : List Byte) : Option AddRequest :=
  if body.length = 16 then
    match body.drop 4 with
    | role :: cr :: box :: pin =>
      match roleOf role, colourRightOf cr, flagOf box, parsePin pin with
      | some role, some cr, some box, some pin =>
        some { user := num (body.take 4), role := role, colourRight := cr, boxRight := box, pin := pin }
      | _, _, _, _ => none
    | _ => none
  else none

/-- The PIN action of ACCOUNT CHANGE (R7). -/
inductive PinAction where
  | keep
  | remove
  | set (pin : PinField)
  deriving DecidableEq, Repr

def parsePinAction (action : Byte) (pin : List Byte) : Option PinAction :=
  if action = 0 then some .keep
  else if action = 1 then some .remove
  else if action = 2 then (parsePin pin).map .set
  else none

/-- ACCOUNT CHANGE (R7). -/
structure ChangeRequest where
  user : Nat
  role : Role
  state : AccountState
  colourRight : ColourRight
  boxRight : Bool
  action : PinAction
  deriving DecidableEq, Repr

def parseAccountChange (body : List Byte) : Option ChangeRequest :=
  if body.length = 18 then
    match body.drop 4 with
    | role :: state :: cr :: box :: action :: pin =>
      match roleOf role, accountStateOf state, colourRightOf cr, flagOf box, parsePinAction action pin with
      | some role, some state, some cr, some box, some action =>
        some { user := num (body.take 4), role := role, state := state, colourRight := cr, boxRight := box, action := action }
      | _, _, _, _, _ => none
    | _ => none
  else none

/-- A body that is one number of `n` bytes: a user number, a job number, a document number, a stream. -/
def parseNumber (n : Nat) (body : List Byte) : Option Nat :=
  if body.length = n then some (num body) else none

/-- CREDIT (R11). -/
structure CreditRequest where
  user : Nat
  subtract : Bool
  amount : Nat
  clearArrears : Bool
  deriving DecidableEq, Repr

def parseCredit (body : List Byte) : Option CreditRequest :=
  if body.length = 10 then
    match (body.drop 4).head?.bind flagOf, (body.drop 9).head?.bind flagOf with
    | some direction, some clear =>
      some { user := num (body.take 4), subtract := direction, amount := num ((body.drop 5).take 4), clearArrears := clear }
    | _, _ => none
  else none

/-- What RATE SET writes: a print rate entry by number, or the scan rate of a size class (R21). -/
inductive RateTarget where
  | print (entry : Nat)
  | scan (size : Fin 8)
  deriving DecidableEq, Repr

structure RateSetRequest where
  target : RateTarget
  first : Nat
  step : Nat
  deriving DecidableEq, Repr

def parseRateSet (body : List Byte) : Option RateSetRequest :=
  match body with
  | [target, entry, f1, f0, s1, s0] =>
    if target = 0 then some { target := .print entry.toNat, first := num [f1, f0], step := num [s1, s0] }
    else if target = 1 then
      (sizeClassOf entry).map fun c => { target := .scan c, first := num [f1, f0], step := num [s1, s0] }
    else none
  | _ => none

/-- AREA SET (R22). -/
structure AreaSetRequest where
  size : Fin 8
  value : Nat
  deriving DecidableEq, Repr

def parseAreaSet (body : List Byte) : Option AreaSetRequest :=
  match body with
  | size :: value => if value.length = 4 then (sizeClassOf size).map fun c => { size := c, value := num value } else none
  | [] => none

/-- RATE QUOTE (R32): a sheet without a tag. -/
def parseRateQuote (body : List Byte) : Option SheetRecord :=
  match body with
  | size :: sides :: dots =>
    match sizeClassOf size with
    | none => none
    | some c =>
      if sides = 1 ∧ dots.length = 12 then
        some { tag := 0, sizeClass := c.val, side1 := dotsOf dots, side2 := none }
      else if sides = 2 ∧ dots.length = 24 then
        some { tag := 0, sizeClass := c.val, side1 := dotsOf dots, side2 := some (dotsOf (dots.drop 12)) }
      else none
  | _ => none

/-- JOB OPEN (R37). -/
structure OpenRequest where
  kind : JobKind
  user : Nat
  estimate : Nat
  sizeClass : Fin 8
  colourClass : ColourClass
  duplex : Bool
  document : Nat
  erase : Bool
  deriving DecidableEq, Repr

def parseJobOpen (body : List Byte) : Option OpenRequest :=
  match body with
  | [kind, u3, u2, u1, u0, e1, e0, size, cls, duplex, d1, d0, erase] =>
    match jobKindOf kind, sizeClassOf size, colourClassOf cls, flagOf duplex, flagOf erase with
    | some kind, some size, some cls, some duplex, some erase =>
      some { kind := kind, user := num [u3, u2, u1, u0], estimate := num [e1, e0], sizeClass := size,
             colourClass := cls, duplex := duplex, document := num [d1, d0], erase := erase }
    | _, _, _, _, _ => none
  | _ => none

/-- REJECT REMOVE: a serial of eight bytes (R105). -/
def parseSerial (body : List Byte) : Option Serial :=
  if body.length = 8 then some (BitVec.ofNat 64 (num body)) else none

/-- STREAM BIND (R151). -/
structure BindRequest where
  stream : Nat
  job : Nat
  window : Window
  deriving DecidableEq, Repr

def parseStreamBind (body : List Byte) : Option BindRequest :=
  match body with
  | [stream, j1, j0, f1, f0, per, halves] =>
    some { stream := stream.toNat, job := num [j1, j0],
           window := { first := num [f1, f0], perHalf := per.toNat, halves := halves.toNat } }
  | _ => none

/-- SETTING SET: a setting number 0 to 12 and a value; a box policy other than 0 or 1 is illegal (R176). -/
structure SettingRequest where
  number : Fin 13
  value : Nat
  deriving DecidableEq, Repr

def parseSettingSet (body : List Byte) : Option SettingRequest :=
  match body with
  | number :: value =>
    if value.length = 4 then
      if h : number.toNat < 13 then
        if number = 11 ∧ 1 < num value then none else some { number := ⟨number.toNat, h⟩, value := num value }
      else none
    else none
  | [] => none

end Sys2Proof.Machine
end

