-- ==== Sys2Proof/Machine/Defaults.lean ====
section
/-! DEFINITION. The values a factory clear gives retained memory (R4, R20, the settings table), and the empty records. -/

namespace Sys2Proof.Machine

/-- The size weight of a class (R20). -/
def sizeWeight (s : Nat) : Nat :=
  match s with
  | 2 => 2 | 3 => 2 | 4 => 3 | 6 => 6 | _ => 1

/-- The default print rate entry of a number: size class, colour class and side position (R18, R20). -/
def defaultPrintRate (entry : Nat) : PrintRate :=
  let w := sizeWeight (entry / 4)
  match entry % 4 with
  | 0 => { base := 10 * w, step := 1 }
  | 1 => { base := 8 * w, step := 1 }
  | 2 => { base := 40 * w, step := 2 }
  | _ => { base := 30 * w, step := 2 }

/-- The default areas in kilodots (R20). -/
def defaultAreas : Vector Nat 8 := #v[16937, 33990, 50975, 67974, 78468, 13185, 194214, 33990]

/-- The rate and area tables after a factory clear (R20). -/
def defaultRates : Rates :=
  { print := Vector.ofFn fun i => defaultPrintRate i.val
    scan := Vector.ofFn fun i => 2 * sizeWeight i.val
    area := defaultAreas }

/-- The defaults of the settings table. -/
def defaultSettings : Settings :=
  { caution := 2000, stop := 100, hysteresis := 200, sessionIdle := 90, freeCoverage := 200,
    verifyInterval := 500, failLimit := 6, recheckPeriod := 5, lowMark := 80, streamIdle := 3000,
    drainLimit := 120, boxPolicy := .keep, ownerCap := 16 }

/-- The account a factory clear leaves at position 1 (R4): its stage at available amount 0 and stop level 100 is STOPPED. -/
def factoryAccount : Account :=
  { userNumber := 1, role := .admin, state := .active, pin := none, failures := 0, colourRight := .full,
    boxRight := true, balance := 0, arrears := 0, stage := .stopped, counters := {} }

/-- Slots, streams and the other volatile records as R88 and R150 set them, presence absent. -/
def fourOf {α : Type} (x : α) : Four α := ⟨x, x, x, x⟩

/-- The line master considers slot 0 first (R88); the cipher unit stream 0 (R150). -/
def servedLast : Fin 4 := 3

def emptyLink : Link :=
  { requestSlot := none, refusalSlot := none, ready := [], tx := .idle, notices := [], lostNotices := 0, discarded := 0 }

def emptyQueue : SheetQueue := { entries := [], hold := false, taking := false }

def emptyPorts : Ports := { scan := none, img := none, scanAnswer := none, imgAnswer := none }

def emptyCipher : CipherUnit := { work := none, lastServed := servedLast }

end Sys2Proof.Machine
end

