-- ==== Sys2Proof/Machine/Memory.lean ====
section
/-! DEFINITION. The bytes of the buffer pool as a list in one canonical form: addresses strictly rising, all of them in
the pool, and no zero byte listed, because an unlisted byte reads zero (R123). -/

namespace Sys2Proof.Machine

/-- The number of bytes in the pool. -/
def poolBytes : Nat := Config.poolBlocks * Config.blockBytes

/-- What an unlisted address reads as: every FREE block holds zero bytes (R123). -/
def Memory.unlisted : Byte := 0

/-- The byte at an address. -/
def Memory.read : Memory → Nat → Byte
  | [], _ => Memory.unlisted
  | (k, v) :: rest, a => if a = k then v else Memory.read rest a

/-- The list with address `a` holding `v`, a zero byte unlisted. -/
def Memory.put : Memory → Nat → Byte → Memory
  | [], a, v => if v = Memory.unlisted then [] else [(a, v)]
  | (k, w) :: rest, a, v =>
    if a < k then (if v = Memory.unlisted then (k, w) :: rest else (a, v) :: (k, w) :: rest)
    else if a = k then (if v = Memory.unlisted then rest else (a, v) :: rest)
    else (k, w) :: Memory.put rest a v

/-- One byte written. An address outside the pool has no byte to hold it (log 13). -/
def Memory.write (m : Memory) (a : Nat) (v : Byte) : Memory :=
  if a < poolBytes then m.put a v else m

/-- Bytes written from address `a` upwards. -/
def Memory.writeBytes : Memory → Nat → List Byte → Memory
  | m, _, [] => m
  | m, a, b :: bs => Memory.writeBytes (m.write a b) (a + 1) bs

/-- `n` bytes read from address `a` upwards. -/
def Memory.readBytes (m : Memory) : Nat → Nat → List Byte
  | _, 0 => []
  | a, n + 1 => m.read a :: Memory.readBytes m (a + 1) n

/-- Zeros over `n` bytes from address `a` upwards. -/
def Memory.zero (m : Memory) (a n : Nat) : Memory := m.filter fun c => decide (c.1 < a ∨ a + n ≤ c.1)

/-- Zeros over a range of blocks (R129). -/
def Memory.zeroBlocks (m : Memory) (r : BlockRange) : Memory :=
  m.zero (r.first * Config.blockBytes) (r.count * Config.blockBytes)

/-- Addresses rise strictly from above `lo`, lie in the pool, and no zero byte is listed. -/
def Memory.wfFrom : Nat → Memory → Bool
  | _, [] => true
  | lo, (k, v) :: rest => decide (lo ≤ k) && decide (k < poolBytes) && decide (v ≠ Memory.unlisted) && Memory.wfFrom (k + 1) rest

/-- The canonical form. -/
def Memory.wf (m : Memory) : Bool := Memory.wfFrom 0 m

/-- A memory in canonical form that holds what a list of address and byte pairs says. -/
def Memory.ofCells (cells : List (Nat × Byte)) : Memory := cells.foldl (fun m c => Memory.write m c.1 c.2) []

end Sys2Proof.Machine
end

