-- ==== Sys2Proof/Machine/State.lean ====
section
/-! DEFINITION. The state of the part: everything the manual gives it, the queue of commands, and the state after reset. -/

namespace Sys2Proof.Machine

/-- Why a command may stop with a fault. No constructor: the manual names no event that stops the part. -/
inductive Fault
  deriving DecidableEq, Repr

/-- Why a command may be refused. -/
inductive Refusal where
  /-- Raised by an arm of exec whose command has no meaning yet; safe, since nothing follows from a refusal. No arm raises it. -/
  | notModelled (mnemonic : String)
  deriving DecidableEq, Repr

/-- The state of the JK-720. -/
structure State where
  /-- The link interface (R172, R174, R175). -/
  link : Link
  /-- The present user accounts by position 1 to 192, in increasing position (R1). -/
  accounts : Table Account
  /-- The house account's counters (R3). -/
  house : Counters
  /-- The panel session, none while it is NONE (R13). -/
  session : Option Session
  /-- The rate and area tables (R18, R19). -/
  rates : Rates
  /-- The thirteen settings (R176). -/
  settings : Settings
  /-- The job table, in increasing job number, and the last number assigned (R34, R35). -/
  jobs : JobTable
  /-- The sheet queue and ENGINE HOLD (R62, R65). -/
  queue : SheetQueue
  /-- The meter bank (R76). -/
  meters : Meters
  /-- The cartridge unit (R86). -/
  cart : CartUnit
  /-- The buffer pool (R123). -/
  pool : Pool
  /-- The stream records (R149). -/
  streams : Four Stream
  /-- The inbound ports (R157, R161). -/
  ports : Ports
  /-- The cipher unit (R162). -/
  cipher : CipherUnit
  /-- The document store (R136). -/
  store : DocStore
  /-- The tamper monitor (R146). -/
  tamper : TamperMonitor
  /-- The supply reset in progress, none once it has ended (R133). -/
  resetting : Option ResetPhase
  /-- The MODEL's own: how many free values have been drawn (log 7). -/
  draws : Nat
  /-- The commands waiting, first in, first out. -/
  pending : List Instr
  deriving DecidableEq, Repr

namespace State

def setLink (s : State) (x : Link) : State := { s with link := x }
def setAccounts (s : State) (x : Table Account) : State := { s with accounts := x }
def setHouse (s : State) (x : Counters) : State := { s with house := x }
def setSession (s : State) (x : Option Session) : State := { s with session := x }
def setRates (s : State) (x : Rates) : State := { s with rates := x }
def setSettings (s : State) (x : Settings) : State := { s with settings := x }
def setJobs (s : State) (x : JobTable) : State := { s with jobs := x }
def setQueue (s : State) (x : SheetQueue) : State := { s with queue := x }
def setMeters (s : State) (x : Meters) : State := { s with meters := x }
def setCart (s : State) (x : CartUnit) : State := { s with cart := x }
def setPool (s : State) (x : Pool) : State := { s with pool := x }
def setStreams (s : State) (x : Four Stream) : State := { s with streams := x }
def setPorts (s : State) (x : Ports) : State := { s with ports := x }
def setCipher (s : State) (x : CipherUnit) : State := { s with cipher := x }
def setStore (s : State) (x : DocStore) : State := { s with store := x }
def setTamper (s : State) (x : TamperMonitor) : State := { s with tamper := x }
def setResetting (s : State) (x : Option ResetPhase) : State := { s with resetting := x }
def setDraws (s : State) (x : Nat) : State := { s with draws := x }
def setPending (s : State) (x : List Instr) : State := { s with pending := x }

/-- The part fresh from manufacture, just after its power-up reset has ended (log 2): retained memory at its defaults
(log 3), volatile state as each chapter gives it, the full fill in progress (R133), and the RESTART notice, which the free
output line has been granted (R174, R180). -/
def reset : State where
  link := { emptyLink with tx := .notice (.restart .supply 0 {} false) }
  accounts := [(1, factoryAccount)]
  house := {}
  session := none
  rates := defaultRates
  settings := defaultSettings
  jobs := { jobs := [], lastNumber := 0 }
  queue := emptyQueue
  meters := {}
  cart := { slots := fourOf {}, lastServed := servedLast, transaction := none, rejectList := [], snapshots := [],
            mono := false, colour := false }
  pool := { mem := [], wipe := [], fill := some .full, waiting := [], underReset := true }
  streams := fourOf {}
  ports := emptyPorts
  cipher := emptyCipher
  store := { docs := [], lastNumber := 0 }
  tamper := { latch := false, input := false }
  resetting := none
  draws := 0
  pending := []

end State

end Sys2Proof.Machine
end

