-- ==== Sys2Proof/Machine/Flags.lean ====
section
/-! DEFINITION. What the blocks derive from what they hold: credit stages, levels and availability, the owners of
blocks, the states of halves, SCAN READY. -/

namespace Sys2Proof.Machine

/-! ## Credit stage (R57, R59) -/

/-- Re-evaluation of a stage from the available amount, with hysteresis on the way up (R57). -/
def stageAfter (st : Settings) (present : Stage) (a : Nat) : Stage :=
  match present with
  | .full => if a < st.stop then .stopped else if a < st.caution then .limited else .full
  | .limited => if a < st.stop then .stopped else if st.caution + st.hysteresis ≤ a then .full else .limited
  | .stopped =>
    if st.caution + st.hysteresis ≤ a then .full
    else if st.stop + st.hysteresis ≤ a then .limited else .stopped

/-- The stage computed without hysteresis (R59). -/
def stageFresh (st : Settings) (a : Nat) : Stage :=
  if st.caution ≤ a then .full else if st.stop ≤ a then .limited else .stopped

/-! ## Toner (R111, R115, R116, R118) -/

/-- View remaining: tag remaining less pending debit, never below 0, absent with tag remaining (R115). -/
def Slot.view (sl : Slot) : Option Nat := sl.tagRemaining.map fun t => t - sl.pending

/-- The level of a slot under a low mark in permille of rated yield (R116). -/
def Slot.levelNow (sl : Slot) (lowMark : Nat) : Option Level :=
  sl.view.map fun v =>
    if v = 0 then .out
    else if v ≤ sl.ratedYield.getD 0 * lowMark / 1000 then .low else .normal

/-- Whether a slot is one of GENUINE and SUSPECT. -/
def SlotState.trusted : SlotState → Bool
  | .genuine => true
  | .suspect => true
  | _ => false

/-- Whether the slot's plane may be printed on (R118). -/
def Slot.usable (sl : Slot) : Bool :=
  sl.state.trusted && (sl.level == some .low || sl.level == some .normal)

def CartUnit.monoNow (u : CartUnit) : Bool := u.slots.a0.usable

def CartUnit.colourNow (u : CartUnit) : Bool :=
  u.slots.a0.usable && u.slots.a1.usable && u.slots.a2.usable && u.slots.a3.usable

/-- The amount of a DEBIT in progress for a slot, or 0 (R111). -/
def CartUnit.inFlight (u : CartUnit) (i : Fin 4) : Nat :=
  match u.transaction with
  | some { slot := j, work := .debit n, .. } => if j = i then n else 0
  | _ => 0

/-- The uncovered debit of a slot (R111). -/
def CartUnit.uncovered (u : CartUnit) (i : Fin 4) : Nat :=
  (u.slots.get i).pending - u.inFlight i - (u.slots.get i).unconfirmed.getD 0

/-- The first request a slot's state allows to be granted, in the order IDENTIFY, CHALLENGE, DEBIT (R89). -/
inductive LineKind where
  | identify | challenge | debit
  deriving DecidableEq, Repr

def Slot.grantable (sl : Slot) : Option LineKind :=
  match sl.state with
  | .empty | .rejected => none
  | .identifying =>
    if sl.requests.identify then some .identify
    else if sl.requests.challenge && sl.serial.isSome then some .challenge else none
  | .genuine | .suspect =>
    if sl.requests.identify then some .identify
    else if sl.requests.challenge then some .challenge
    else if sl.requests.debit && sl.unconfirmed.isNone then some .debit else none
  | .silent => if sl.requests.identify then some .identify else none

/-! ## Windows, blocks and halves (R123, R124, R131) -/

def BlockRange.has (r : BlockRange) (b : Nat) : Bool := decide (r.first ≤ b ∧ b < r.first + r.count)

def BlockRange.overlaps (r q : BlockRange) : Bool :=
  decide (r.first < q.first + q.count ∧ q.first < r.first + r.count ∧ 0 < r.count ∧ 0 < q.count)

/-- The blocks of a window (R124). -/
def Window.range (w : Window) : BlockRange := { first := w.first, count := w.perHalf * w.halves }

/-- The blocks of one half of a window. -/
def Window.halfRange (w : Window) (half : Bool) : BlockRange :=
  { first := w.first + (if half then w.perHalf else 0), count := w.perHalf }

/-- The bytes a half holds: its size and its first byte's address. -/
def Window.halfBytes (w : Window) : Nat := w.perHalf * Config.blockBytes
def Window.halfAddress (w : Window) (half : Bool) : Nat := (w.halfRange half).first * Config.blockBytes

/-- The owner of a block (R123). -/
def blockOwner (p : Pool) (streams : Four Stream) (b : Nat) : BlockOwner :=
  if p.underReset then .reset
  else
    match fourIndices.find? (fun i => ((streams.get i).window.map fun w => w.range.has b).getD false) with
    | some i => .stream i
    | none => if p.wipe.any (fun r => r.has b) then .wipe else .free

/-- Whether each block is FREE, block 0 first. -/
def freeMap (p : Pool) (streams : Four Stream) : List Bool :=
  (List.range Config.poolBlocks).map fun b => blockOwner p streams b == .free

def freeCount (p : Pool) (streams : Four Stream) : Nat := (freeMap p streams).count true

/-- The longest run of FREE blocks, the lowest of equals: its first block and its length (R134; log 32). -/
def longestRun : List Bool → (position first length bestFirst bestLength : Nat) → Nat × Nat
  | [], _, _, _, bf, bl => (bf, bl)
  | free :: rest, p, f, l, bf, bl =>
    if free then
      let f' := if l = 0 then p else f
      if l + 1 > bl then longestRun rest (p + 1) f' (l + 1) f' (l + 1) else longestRun rest (p + 1) f' (l + 1) bf bl
    else longestRun rest (p + 1) 0 0 bf bl

/-- The number of bound windows. -/
def boundWindows (streams : Four Stream) : Nat := streams.toList.countP fun st => st.window.isSome

/-- The wipe-in-progress flag of STATUS READ (R134). -/
def Pool.wipeInProgress (p : Pool) : Bool := p.fill == some .full || p.wipe != []

def Stream.half (st : Stream) (b : Bool) : Half := if b then st.half1 else st.half0

def Stream.setHalf (st : Stream) (b : Bool) (h : Half) : Stream :=
  if b then { st with half1 := h } else { st with half0 := h }

/-- The halves of the stream's window, half 0 first. -/
def Stream.halves (st : Stream) : List Bool :=
  match st.window with
  | none => []
  | some w => if w.halves = 2 then [false, true] else [false]

/-- The half used after `b` (R149): the other one when there are two. -/
def Stream.following (st : Stream) (b : Bool) : Bool :=
  match st.window with
  | some w => if w.halves = 2 then !b else b
  | none => b

def Stream.anyHalf (st : Stream) (p : HalfState → Bool) : Bool := p st.half0.state || p st.half1.state

/-- Whether a half is in the cipher unit or being sent (R127). -/
def Stream.inHand (st : Stream) : Bool := st.anyHalf fun h => h == .cipher || h == .sending

def Stream.sending (st : Stream) : Bool := st.anyHalf fun h => h == .sending

/-- The halt fill is done when every half is EMPTY (R131). -/
def Stream.haltFillDone (st : Stream) : Bool := st.half0.state == .empty && st.half1.state == .empty

def Stream.haltFilling (st : Stream) : Bool := st.state == .halt && !st.haltFillDone

/-- Bound in every state but IDLE (R149). -/
def Stream.bound (st : Stream) : Bool := st.state != .idle

/-- HOLD or FLOW. -/
def Stream.holdOrFlow (st : Stream) : Bool := st.state == .hold || st.state == .flow

/-- The number of bytes the stream's halves hold. -/
def Stream.halfSize (st : Stream) : Nat := (st.window.map Window.halfBytes).getD 0

def Stream.halfAddress (st : Stream) (b : Bool) : Nat := (st.window.map (·.halfAddress b)).getD 0

/-- Whether a frame for a stream is arriving on the scan port or the image link. -/
def Ports.scanArriving (p : Ports) (i : Fin 4) : Bool :=
  match p.scan with
  | some a => a.header.stream.toNat == i.val
  | none => false

def Ports.imgArriving (p : Ports) (i : Fin 4) : Bool :=
  match p.img with
  | some a => a.stream == some i
  | none => false

/-- SCAN READY of a stream (R149). -/
def scanReady (p : Ports) (st : Stream) (i : Fin 4) : Bool :=
  st.kind == some .encode && st.state == .flow && !st.lastBand && (st.half st.intake).state == .empty && !p.scanArriving i

/-- The numbers in turn, starting after the one last served (R90, R162). -/
def inTurn (last : Fin 4) : List (Fin 4) := [last + 1, last + 2, last + 3, last]

end Sys2Proof.Machine
end

