-- ==== Sys2Proof/Machine/Ops.lean ====
section
/-! DEFINITION. The named operations over the state: tables, accounts, jobs, streams, slots, documents, meters, free
values, the session timer, the notice set and the reply slots. -/

namespace Sys2Proof.Machine

/-! ## Tables -/

namespace Table

variable {α : Type}

/-- The record under a number. -/
def find : Table α → Nat → Option α
  | [], _ => none
  | (k, v) :: rest, n => if n = k then some v else find rest n

/-- The table with a record put under a number, in increasing number. -/
def put : Table α → Nat → α → Table α
  | [], n, x => [(n, x)]
  | (k, v) :: rest, n, x =>
    if n < k then (n, x) :: (k, v) :: rest
    else if n = k then (n, x) :: rest
    else (k, v) :: put rest n x

/-- The table without the record under a number. -/
def drop (t : Table α) (n : Nat) : Table α := t.filter fun c => c.1 != n

/-- The table with the record under a number changed, where there is one. -/
def change (t : Table α) (n : Nat) (f : α → α) : Table α := t.map fun c => if c.1 = n then (c.1, f c.2) else c

/-- Numbers rise strictly. -/
def rising (t : Table α) : Bool := decide ((t.map Prod.fst).Pairwise (· < ·))

end Table

/-! ## Saturation and meters -/

/-- Addition that stops at the end of the range (Conventions: saturating). -/
def satAdd (top a b : Nat) : Nat := min top (a + b)

/-- An amount added to a meter or counter in decimal (R77). -/
def Meter.add (m : Meter) (n : Nat) : Meter :=
  if n = 0 then m
  else if m.value + n ≤ Config.meterTop then { m with value := m.value + n } else { value := Config.meterTop, full := true }

/-- The additions one event makes to the device meters. -/
structure MeterAdds where
  monoSides : Nat := 0
  colourSides : Nat := 0
  duplexSheets : Nat := 0
  totalSheets : Nat := 0
  scanPages : Nat := 0
  unattributedSheets : Nat := 0
  damagedRecords : Nat := 0
  lostRecords : Nat := 0
  pointsCharged : Nat := 0
  arrearsPoints : Nat := 0
  cartridgesRejected : Nat := 0
  untrackedPlaneSides : Nat := 0
  tamperEvents : Nat := 0
  deriving DecidableEq, Repr

/-- Each meter saturates on its own (R77). -/
def Meters.addAll (m : Meters) (a : MeterAdds) : Meters :=
  { monoSides := m.monoSides.add a.monoSides
    colourSides := m.colourSides.add a.colourSides
    duplexSheets := m.duplexSheets.add a.duplexSheets
    totalSheets := m.totalSheets.add a.totalSheets
    scanPages := m.scanPages.add a.scanPages
    unattributedSheets := m.unattributedSheets.add a.unattributedSheets
    damagedRecords := m.damagedRecords.add a.damagedRecords
    lostRecords := m.lostRecords.add a.lostRecords
    pointsCharged := m.pointsCharged.add a.pointsCharged
    arrearsPoints := m.arrearsPoints.add a.arrearsPoints
    cartridgesRejected := m.cartridgesRejected.add a.cartridgesRejected
    untrackedPlaneSides := m.untrackedPlaneSides.add a.untrackedPlaneSides
    tamperEvents := m.tamperEvents.add a.tamperEvents }

/-- The thirteen meters in the order of their numbers (R76). -/
def Meters.toList (m : Meters) : List Meter :=
  [m.monoSides, m.colourSides, m.duplexSheets, m.totalSheets, m.scanPages, m.unattributedSheets, m.damagedRecords,
   m.lostRecords, m.pointsCharged, m.arrearsPoints, m.cartridgesRejected, m.untrackedPlaneSides, m.tamperEvents]

/-- The additions of one settlement to an account's counters (R83). -/
def Counters.addAll (c : Counters) (mono colour pages points : Nat) : Counters :=
  { monoSides := c.monoSides.add mono, colourSides := c.colourSides.add colour,
    scanPages := c.scanPages.add pages, pointsCharged := c.pointsCharged.add points }

namespace State

def addMeters (s : State) (a : MeterAdds) : State := s.setMeters (s.meters.addAll a)

/-! ## Accounts, jobs and money -/

/-- The account at a position. -/
def account (s : State) (p : Nat) : Option Account := Table.find s.accounts p

/-- The present account with a user number, and its position (R1). -/
def findUser (s : State) (user : Nat) : Option (Nat × Account) := s.accounts.find? fun c => c.2.userNumber == user

def changeAccount (s : State) (p : Nat) (f : Account → Account) : State := s.setAccounts (Table.change s.accounts p f)

/-- The user number of a job's or a document's owner. -/
def userNumber (s : State) (p : Nat) : Nat := ((s.account p).map (·.userNumber)).getD 0

/-- The lowest free position from 1 to 192 (R1). -/
def freePosition (s : State) : Option Nat :=
  ((List.range Config.positions).map (· + 1)).find? fun p => (s.account p).isNone

def job (s : State) (n : Nat) : Option Job := Table.find s.jobs.jobs n

def jobList (s : State) : List Job := s.jobs.jobs.map Prod.snd

def changeJob (s : State) (n : Nat) (f : Job → Job) : State :=
  s.setJobs { s.jobs with jobs := Table.change s.jobs.jobs n f }

/-- The jobs an account owns, in increasing job number. -/
def jobsOf (s : State) (p : Nat) : List Job := s.jobList.filter fun j => j.owner == p

/-- The total of the holds of an account's jobs (Terms: Available amount). -/
def totalHolds (s : State) (p : Nat) : Nat := ((s.jobsOf p).map (·.holdRemaining)).sum

/-- The available amount of an account at a position (R56). -/
def available (s : State) (p : Nat) : Nat := ((s.account p).map (·.balance)).getD 0 - s.totalHolds p

/-- Whether exactly this account carries the role ADMIN (R7, R10). -/
def onlyAdmin (s : State) (p : Nat) : Bool :=
  s.accounts.all (fun c => c.2.role == .admin → c.1 == p) && s.accounts.any (fun c => c.1 == p && c.2.role == .admin)

/-! ## The session -/

/-- Admin authority: the session is OPEN and its account's role is ADMIN (R5). -/
def isAdmin (s : State) : Bool :=
  match s.session with
  | none => false
  | some se => ((s.account se.position).map (·.role)) == some .admin

/-- Whether the session is OPEN on a position. -/
def sessionOn (s : State) (p : Nat) : Bool := (s.session.map (·.position)) == some p

/-- The idle timer restarts from zero while the session is OPEN (R15). -/
def touchSession (s : State) : State := s.setSession (s.session.map fun se => { se with idle := 0 })

/-! ## Streams, slots and documents -/

def stream (s : State) (i : Fin 4) : Stream := s.streams.get i

def setStream (s : State) (i : Fin 4) (st : Stream) : State := s.setStreams (s.streams.set i st)

def changeStream (s : State) (i : Fin 4) (f : Stream → Stream) : State := s.setStream i (f (s.stream i))

/-- The stream a request names, where its number is 0 to 3. -/
def streamIndex (n : Nat) : Option (Fin 4) := if h : n < 4 then some ⟨n, h⟩ else none

def slot (s : State) (i : Fin 4) : Slot := s.cart.slots.get i

def setSlot (s : State) (i : Fin 4) (sl : Slot) : State := s.setCart { s.cart with slots := s.cart.slots.set i sl }

/-- Marks or clears a level change of a slot still to be told (log 16). -/
def setLevelMoved (s : State) (i : Fin 4) (b : Bool) : State :=
  s.setCart { s.cart with levelMoved := s.cart.levelMoved.set i b }

def changeSlot (s : State) (i : Fin 4) (f : Slot → Slot) : State := s.setSlot i (f (s.slot i))

def document (s : State) (n : Nat) : Option Document := s.store.docs.find? fun d => d.number == n

def changeDocument (s : State) (n : Nat) (f : Document → Document) : State :=
  s.setStore { s.store with docs := s.store.docs.map fun d => if d.number = n then f d else d }

/-- The document leaves the store and its key with it (R137, R142). -/
def eraseDocument (s : State) (n : Nat) : State :=
  s.setStore { s.store with docs := s.store.docs.filter fun d => d.number != n }

/-- Whether the stream's document carries the colour mark. -/
def documentColour (s : State) (n : Option Nat) : Bool :=
  match n.bind s.document with
  | some d => d.colour
  | none => false

/-- The key of a document, zero when it has been erased (R137). -/
def documentKey (s : State) (n : Nat) : Key := ((s.document n).map (·.key)).getD 0

/-! ## The pool's bytes -/

def setMem (s : State) (m : Memory) : State := s.setPool { s.pool with mem := m }

/-- Zeros over a half of a stream's window. -/
def zeroHalf (s : State) (st : Stream) (b : Bool) : State :=
  match st.window with
  | none => s
  | some w => s.setMem (s.pool.mem.zeroBlocks (w.halfRange b))

/-- Bytes written from the start of a half. -/
def writeHalf (s : State) (st : Stream) (b : Bool) (bytes : List Byte) : State :=
  s.setMem (s.pool.mem.writeBytes (st.halfAddress b) bytes)

/-- The first `n` bytes of a half. -/
def readHalf (s : State) (st : Stream) (b : Bool) (n : Nat) : List Byte :=
  s.pool.mem.readBytes (st.halfAddress b) n

/-! ## Free values -/

/-- One more free value has been drawn (log 7). -/
def drawn (s : State) : State := s.setDraws (s.draws + 1)

end State

/-! ## The notice set (R175) -/

/-- The number of a notice's kind (chapter 11, Notice kinds). -/
def Notice.kind : Notice → Nat
  | .restart _ _ _ _ => 1
  | .sessionEnd _ _ => 2
  | .stageChange _ _ _ _ _ => 3
  | .jobStop _ _ _ => 4
  | .jobDone _ => 5
  | .colourUnexpected _ _ => 6
  | .streamHalt _ => 7
  | .streamDone _ => 8
  | .cartridgeState _ => 9
  | .tonerLevel _ => 10
  | .colourAvailability _ => 11
  | .queueOverrun _ _ => 12
  | .wipeDone _ _ => 13
  | .tamper _ => 14

/-- The subject of a notice, where its kind has one. -/
def Notice.subject : Notice → Option Nat
  | .restart _ _ _ _ => none
  | .sessionEnd _ _ => none
  | .stageChange p _ _ _ _ => some p
  | .jobStop j _ _ => some j
  | .jobDone d => some d.number
  | .colourUnexpected j _ => some j
  | .streamHalt r => some r.stream.val
  | .streamDone r => some r.stream.val
  | .cartridgeState r => some r.slot.val
  | .tonerLevel r => some r.slot.val
  | .colourAvailability _ => none
  | .queueOverrun _ _ => none
  | .wipeDone _ _ => none
  | .tamper _ => none

def Notice.key (n : Notice) : Nat × Option Nat := (n.kind, n.subject)

/-- The content after a second posting of a held kind and subject: what the owning chapters keep from the first posting
or add to (R64, R108, R117, R119, R147), else the new content. -/
def Notice.merge (held new : Notice) : Notice :=
  match held, new with
  | .cartridgeState h, .cartridgeState n =>
    .cartridgeState { n with before := h.before, discarded := satAdd Config.debitTop h.discarded n.discarded }
  | .tonerLevel h, .tonerLevel n => .tonerLevel { n with before := h.before }
  | .colourAvailability h, .colourAvailability n =>
    .colourAvailability { n with monoBefore := h.monoBefore, colourBefore := h.colourBefore }
  | .queueOverrun h _, .queueOverrun n m => .queueOverrun (satAdd Config.maxNumber h n) m
  | .tamper h, .tamper n => .tamper { n with events := h.events + n.events, erased := h.erased + n.erased }
  | _, n => n

/-- A posting (R175): a held pair is replaced in its place, a new one added at the end, or dropped when 64 are held. -/
def Link.post (l : Link) (n : Notice) : Link :=
  if l.notices.any (fun h => h.key == n.key) then
    { l with notices := l.notices.map fun h => if h.key = n.key then h.merge n else h }
  else if l.notices.length < Config.noticeSize then { l with notices := l.notices ++ [n] }
  else { l with lostNotices := satAdd Config.maxNumber l.lostNotices 1 }

/-- The output line's arbiter (R174): replies first, the one that became ready first; else the oldest notice. -/
def Link.arbitrate (l : Link) : Link :=
  match l.tx with
  | .idle =>
    match l.ready, l.notices with
    | r :: rest, _ => { l with tx := .reply r, ready := rest }
    | [], n :: rest => { l with tx := .notice n, notices := rest }
    | [], [] => l
  | .reply _ => l
  | .notice _ => l

/-- A reply becomes ready in the request slot (R172, R173). -/
def Link.placeReply (l : Link) (r : Reply) : Link :=
  { l with requestSlot := some r, ready := l.ready ++ [.request] }

/-- A complete frame with a good check while the request slot is occupied: BUSY through an empty refusal slot, else
discarded and counted (R172). -/
def Link.turnAway (l : Link) (cls : Byte) : Link :=
  match l.refusalSlot with
  | none =>
    { l with refusalSlot := some { replyClass := replyClass cls, body := [Status.busy.code] },
             ready := l.ready ++ [.refusal] }
  | some _ => { l with discarded := satAdd Config.maxNumber l.discarded 1 }

/-- A broken frame or a frame with a bad check while the request slot is occupied (R172). -/
def Link.discard (l : Link) : Link := { l with discarded := satAdd Config.maxNumber l.discarded 1 }

def State.post (s : State) (n : Notice) : State := s.setLink (s.link.post n)

/-! ## Replies of the owning blocks (R173) -/

/-- What serving a request gives: the state it leaves and the body of the reply. -/
abbrev Served := State × List Byte

/-- A status other than OK: the body is the status byte alone. -/
def refuse (s : State) (status : Status) : Served := (s, [status.code])

/-- OK, and the fields the request's rule names. -/
def okWith (s : State) (fields : List Byte) : Served := (s, Status.ok.code :: fields)

/-- The link interface's checks 3 and 4 (R173): a body that its layout does not spell is refused MALFORMED. -/
def withParsed {α : Type} (parsed : Option α) (s : State) (serve : α → Served) : Served :=
  match parsed with
  | none => refuse s .malformed
  | some r => serve r

/-- A request marked admin (R5): refused NOT_PERMITTED without admin authority; with it, the request restarts the session
idle timer whatever its later outcome (R15). -/
def asAdmin (s : State) (serve : State → Served) : Served :=
  if s.isAdmin then serve s.touchSession else refuse s .notPermitted

/-- A request that acts for the session's account (R5, R15): refused NO_SESSION while the session is NONE. -/
def asSession (s : State) (serve : Session → State → Served) : Served :=
  match s.session with
  | none => refuse s .noSession
  | some se => serve se s.touchSession

/-- A user number in its range (R1). -/
def userInRange (user : Nat) : Bool := decide (1 ≤ user ∧ user ≤ Config.maxUserNumber)

end Sys2Proof.Machine
end

