-- ==== Sys2Proof/Machine/Charge.lean ====
section
/-! DEFINITION. The charge unit (R25 to R31): the coverages, colour class, excess steps and charge of a side, the charge
result of a sheet, and the scan page charge. -/

namespace Sys2Proof.Machine

/-- A print rate entry by its number (R18). -/
def Rates.entry (r : Rates) (n : Nat) : PrintRate := r.print[n]?.getD { base := 0, step := 0 }

/-- The scan rate of a size class (R18). -/
def Rates.scanRate (r : Rates) (size : Nat) : Nat := r.scan[size]?.getD 0

/-- The area of a size class in kilodots (R19). -/
def Rates.areaOf (r : Rates) (size : Nat) : Nat := r.area[size]?.getD 1

/-- The number of the entry of a size class, colour class and side position (R18). -/
def entryNumber (size : Nat) (c : ColourClass) (p : SidePosition) : Nat :=
  4 * size + (if c = .colour then 2 else 0) + (if p = .back then 1 else 0)

/-- Plane coverage in permille (R26). -/
def coverage (area dots : Nat) : Nat := min 1000 (dots * 1000 / area)

/-- The colour class of a side, from its dot counts (R27). -/
def Dots.colourClass (d : Dots) : ColourClass := if d.c = 0 ∧ d.m = 0 ∧ d.y = 0 then .mono else .colour

/-- Excess steps over the free coverage (R28). -/
def excessSteps (free total : Nat) : Nat := (total - free) / 10

/-- The result of one side (R26 to R28). -/
def sideCharge (r : Rates) (free size : Nat) (p : SidePosition) (d : Dots) : SideCharge :=
  let area := r.areaOf size
  let total := coverage area d.k + coverage area d.c + coverage area d.m + coverage area d.y
  let entry := entryNumber size d.colourClass p
  let rate := r.entry entry
  let raw := rate.base + rate.step * excessSteps free total
  { position := p, colourClass := d.colourClass,
    covK := coverage area d.k, covC := coverage area d.c, covM := coverage area d.m, covY := coverage area d.y,
    total := total, excess := excessSteps free total, entry := entry, base := rate.base, step := rate.step,
    charge := min Config.sideCeiling raw, ceiling := decide (Config.sideCeiling < raw) }

/-- The charge result of a sheet: a simplex side is FRONT, the second side of a duplex sheet BACK (R25, R29). -/
def sheetCharge (r : Rates) (free : Nat) (sheet : SheetRecord) : ChargeResult :=
  let front := sideCharge r free sheet.sizeClass .front sheet.side1
  match sheet.side2 with
  | none => { charge := front.charge, sides := [front] }
  | some d =>
    let back := sideCharge r free sheet.sizeClass .back d
    { charge := front.charge + back.charge, sides := [front, back] }

/-- The number of sides of a colour class in a charge result. -/
def ChargeResult.sidesOf (c : ChargeResult) (k : ColourClass) : Nat := c.sides.countP fun s => s.colourClass == k

/-- The charge result of a sheet under the tables and the free coverage in force (R24). -/
def State.priceSheet (s : State) (sheet : SheetRecord) : ChargeResult := sheetCharge s.rates s.settings.freeCoverage sheet

/-- The scan page charge of a size class (R31). -/
def State.pricePage (s : State) (size : Nat) : Nat := s.rates.scanRate size

end Sys2Proof.Machine
end

