-- ==== Sys2Proof/Machine/Halts.lean ====
section
/-! DEFINITION. The entry of a stream to HALT with its halt fill and its notice (R131, R168), the unbinding of a stream
with the release of its window (R127), and the stop of a job (R48). -/

namespace Sys2Proof.Machine

/-! ## Entry to HALT (R168) -/

/-- A stream halts from HOLD or FLOW on any cause, from DONE on TAMPER alone (R168). -/
def Stream.mayHalt (st : Stream) (cause : HaltCause) : Bool := st.holdOrFlow || (st.state == .done && cause == .tamper)

/-- The header a band frame gives to the half it is stored in, its marks only (R159; log 14 for a half being written). -/
def ScanHeader.band (h : ScanHeader) : BandHeader :=
  { flags := marksOf h.flags, sizeClass := h.sizeClass.toNat, length := h.length.toNat, band := 0, page := 0 }

/-- The header an image frame gives to the half it is stored in (R161). -/
def ImgHeader.stored (h : ImgHeader) : BandHeader :=
  { flags := h.flags, sizeClass := h.sizeClass.toNat, length := h.length.toNat, band := h.band.toNat, page := h.page.toNat }

/-- The header of the frame being written into the stream's intake half, where one is. -/
def Ports.writingInto (p : Ports) (i : Fin 4) : Option BandHeader :=
  match p.scan.filter (fun a => a.writing && a.header.stream.toNat == i.val) with
  | some a => some a.header.band
  | none => (p.img.filter fun a => a.writing && a.stream == some i).map fun a => a.header.stored

/-- A halt or a release ends the writing of an arriving frame at once (R157). -/
def Ports.stopWriting (p : Ports) (i : Fin 4) : Ports :=
  { p with
    scan := p.scan.map fun a => if a.header.stream.toNat = i.val then { a with writing := false } else a
    img := p.img.map fun a => if a.stream = some i then { a with writing := false } else a }

/-- A FILLED half waits for the fill engine (R131). -/
def Half.awaitFill (h : Half) : Half := if h.state = .filled then { h with waiting := true } else h

/-- Whether a half's band carries the last-of-page mark. -/
def Half.endsPage (h : Half) : Bool := (h.header.map fun b => flagLastOfPage b.flags).getD false

/-- Whether a half that is SENDING carries the last-of-page mark. -/
def Half.sendsPageEnd (h : Half) : Bool := h.state == .sending && h.endsPage

/-- The resume point of a RELEASE stream: one past the last band sent or being sent, and the pages sent or being sent (R168). -/
def Stream.resumePoint (st : Stream) : Stream :=
  { st with
    nextBand := (st.lastSent.map (· + 1)).getD 0
    page := if st.half0.sendsPageEnd || st.half1.sendsPageEnd then satAdd Config.maxNumber st.pages 1 else st.pages }

/-- The stream at its entry to HALT (R168): a half being written counts as FILLED and waits with the others (R131; log 14). -/
def Stream.enterHalt (st : Stream) (cause : HaltCause) (writing : Option BandHeader) : Stream :=
  let st := match writing with
    | none => st
    | some h => st.setHalf st.intake { state := .filled, header := some h }
  let st := { st with half0 := st.half0.awaitFill, half1 := st.half1.awaitFill,
                      state := .halt, haltCause := some cause, idle := none }
  if st.kind = some .release then st.resumePoint else st

/-- The halves of a stream that wait for the fill engine, half 0 before half 1 (R131). -/
def Stream.waitingHalves (st : Stream) : List Bool := [false, true].filter fun b => (st.half b).waiting

namespace State

/-- Halves join the fill engine's work in the order given (R129). -/
def joinFill (s : State) (i : Fin 4) (halves : List Bool) : State :=
  s.setPool { s.pool with waiting := s.pool.waiting ++ halves.map fun b => (i, b) }

/-- Steps 1 to 3 of the entry to HALT, where the stream halts on the cause (R168). -/
def haltStream (s : State) (i : Fin 4) (cause : HaltCause) : State :=
  if (s.stream i).mayHalt cause then
    let st := (s.stream i).enterHalt cause (s.ports.writingInto i)
    ((s.setStream i st).setPorts (s.ports.stopWriting i)).joinFill i st.waitingHalves
  else s

/-- The content of STREAM_HALT (R168). -/
def haltReport (s : State) (i : Fin 4) (cause : HaltCause) : HaltReport :=
  let st := s.stream i
  { stream := i, kind := st.kind, job := st.job, document := st.document, cause := cause, nextBand := st.nextBand,
    page := st.page, bands := st.bands, pages := st.pages, duplicates := st.duplicates, refused := st.refused }

def postHalt (s : State) (i : Fin 4) (cause : HaltCause) : State := s.post (.streamHalt (s.haltReport i cause))

/-- The entry to HALT with its notice (R168). -/
def halt (s : State) (i : Fin 4) (cause : HaltCause) : State :=
  if (s.stream i).mayHalt cause then (s.haltStream i cause).postHalt i cause else s

/-- The streams of a list halt in its order, those that the cause halts. -/
def haltAll (s : State) (cause : HaltCause) (streams : List (Fin 4)) : State :=
  streams.foldl (fun s i => s.halt i cause) s

/-! ## Unbinding (R127, R155) -/

/-- The fill engine clears an item of an unbound stream to its end, but not for the stream (R127). -/
def giveUpFill (i : Fin 4) : FillItem → FillItem
  | .half j h b l => .half j h b (l && j != i)
  | .full => .full
  | .range => .range

/-- A stream is unbound: its window joins the wipe list, its halt fill is given up, and its job's bound stream becomes
absent (R127, R155). -/
def unbind (s : State) (i : Fin 4) : State :=
  let st := s.stream i
  let s := s.setPool { s.pool with
    wipe := s.pool.wipe ++ (st.window.map Window.range).toList
    waiting := s.pool.waiting.filter fun w => w.1 != i
    fill := s.pool.fill.map (giveUpFill i) }
  let s := (s.setPorts (s.ports.stopWriting i)).setStream i {}
  match st.job with
  | none => s
  | some n => s.changeJob n fun j => { j with stream := none }

end State

/-! ## The stop of a job (R48) -/

/-- A job in OPEN or RUNNING. -/
def Job.active (j : Job) : Bool := j.state == .opened || j.state == .running

/-- The causes on which a BOX_PRINT job's stream halts with cause CREDIT (R48). -/
def StopCause.haltsRelease : StopCause → Bool
  | .credit => true
  | .sheetLimit => true
  | .sessionEnd => false
  | .tamper => false

/-- The job goes to STOPPING with a cause, where it is OPEN or RUNNING (R48). -/
def Job.stopped (j : Job) (cause : StopCause) : Job :=
  if j.active then { j with state := .stopping, stopCause := some cause } else j

/-- The entry of a job into STOPPING: JOB_STOP, then for CREDIT and SHEET_LIMIT the halt of its RELEASE stream (R48). -/
def State.stopJob (s : State) (n : Nat) (cause : StopCause) : State :=
  match s.job n with
  | none => s
  | some j =>
    if j.active then
      let s := (s.changeJob n fun j => j.stopped cause).post (.jobStop n (s.userNumber j.owner) cause)
      match j.stream with
      | some i => if j.kind = .boxPrint ∧ cause.haltsRelease then s.halt i .credit else s
      | none => s
    else s

end Sys2Proof.Machine
end

