-- ==== Sys2Proof/Machine/Grants.lean ====
section
/-! DEFINITION. What the part does by itself at the end of every event (log 17): levels and availability, the grant of
the cipher unit, the take of the fill engine, the grant of the cartridge line, the take of the sheet queue, and the grant
of the output line. -/

namespace Sys2Proof.Machine

/-! ## Levels and availability (R116 to R121) -/

/-- The content of TONER_LEVEL (R117). -/
def Slot.levelReport (sl : Slot) (i : Fin 4) (now : Option Level) : LevelReport :=
  { slot := i, before := sl.level, now := now, serial := sl.serial, view := sl.view, tagRemaining := sl.tagRemaining,
    pending := sl.pending, ratedYield := sl.ratedYield }

/-- The slot at its level, with no change left to tell. -/
def State.setLevel (s : State) (i : Fin 4) (now : Option Level) : State :=
  (s.setSlot i { s.slot i with level := now }).setLevelMoved i false

/-- The level of one slot recomputed, with TONER_LEVEL when it has changed within the event, returned or not
(R116, R117; log 16). -/
def State.updateLevel (s : State) (i : Fin 4) : State :=
  let now := (s.slot i).levelNow s.settings.lowMark
  if now = (s.slot i).level ∧ s.cart.levelMoved.get i = false then s
  else (s.setLevel i now).post (.tonerLevel ((s.slot i).levelReport i now))

def State.updateLevels (s : State) : State := fourIndices.foldl State.updateLevel s

def Slot.planeReport (sl : Slot) : PlaneReport := { usable := sl.usable, state := sl.state, level := sl.level }

/-- The content of COLOUR_AVAILABILITY (R119). -/
def CartUnit.availabilityReport (u : CartUnit) : AvailabilityReport :=
  { monoBefore := u.mono, colourBefore := u.colour, monoNow := u.monoNow, colourNow := u.colourNow,
    planes := { a0 := u.slots.a0.planeReport, a1 := u.slots.a1.planeReport,
                a2 := u.slots.a2.planeReport, a3 := u.slots.a3.planeReport } }

/-- Whether a fall of mono or of colour availability halts the stream (R121). -/
def State.tonerHalts (s : State) (monoFell colourFell : Bool) (i : Fin 4) : Bool :=
  (s.stream i).kind == some .release && (s.stream i).holdOrFlow
    && (monoFell || (colourFell && s.documentColour (s.stream i).document))

/-- Both availabilities recomputed; a change posts COLOUR_AVAILABILITY, and a fall halts release streams (R118 to R121). -/
def State.updateAvailability (s : State) : State :=
  let u := s.cart
  if u.monoNow = u.mono ∧ u.colourNow = u.colour then s
  else
    let s' := (s.setCart { u with mono := u.monoNow, colour := u.colourNow }).post (.colourAvailability u.availabilityReport)
    s'.haltAll .toner (fourIndices.filter (s'.tonerHalts (u.mono && !u.monoNow) (u.colour && !u.colourNow)))

/-! ## The cipher unit's grant (R162, R163) -/

/-- Whether a half of a stream of this kind is SENDING, and so its port is taken. -/
def State.portBusy (s : State) (k : Option StreamKind) : Bool :=
  s.streams.toList.any fun st => st.kind == k && st.sending

/-- Eligibility for the cipher unit (R162). -/
def State.eligible (s : State) (i : Fin 4) : Bool :=
  let st := s.stream i
  st.state != .halt && (st.half st.output).state == .filled && !s.portBusy st.kind

/-- A grant for an ENCODE stream fixes the band number and the page number (R163). -/
def BandHeader.numbered (h : BandHeader) (st : Stream) : BandHeader :=
  if st.kind = some .encode then { h with band := st.nextBand, page := st.page } else h

/-- The stream after its output half has gone to CIPHER (R162, R163). -/
def Stream.granted (st : Stream) : Stream :=
  let h := st.half st.output
  let st' := st.setHalf st.output { h with state := .cipher, header := h.header.map fun b => b.numbered st }
  let st' := { st' with output := st.following st.output }
  if st.kind = some .encode then
    { st' with nextBand := satAdd Config.maxNumber st.nextBand 1,
               page := if h.endsPage then satAdd Config.maxNumber st.page 1 else st.page }
  else st'

/-- The free cipher unit grants the first eligible stream in turn (R162). -/
def State.cipherGrant (s : State) : State :=
  match s.cipher.work, (inTurn s.cipher.lastServed).find? s.eligible with
  | none, some i =>
    (s.changeStream i Stream.granted).setCipher { work := some { stream := i, half := (s.stream i).output }, lastServed := i }
  | _, _ => s

/-! ## The fill engine's take (R129) -/

/-- The free fill engine takes the oldest waiting half, else the oldest range. The full fill is taken at RESET_END. -/
def State.fillTake (s : State) : State :=
  match s.pool.fill, s.pool.waiting, s.pool.wipe with
  | none, (i, b) :: rest, _ =>
    let blocks := ((s.stream i).window.map fun w => w.halfRange b).getD { first := 0, count := 0 }
    s.setPool { s.pool with fill := some (.half i b blocks true), waiting := rest }
  | none, [], _ :: _ => s.setPool { s.pool with fill := some .range }
  | _, _, _ => s

/-! ## The cartridge line's grant (R89, R90, R95, R113) -/

/-- A slot without its first grantable request. -/
def Slot.withoutRequest (sl : Slot) : LineKind → Slot
  | .identify => { sl with requests := { sl.requests with identify := false } }
  | .challenge => { sl with requests := { sl.requests with challenge := false } }
  | .debit => { sl with requests := { sl.requests with debit := false } }

/-- A transaction begins: its request is removed, and the slot becomes the one last served (R89, R90). -/
def State.beginTransaction (s : State) (i : Fin 4) (k : LineKind) (w : LineWork) : State :=
  let s := s.changeSlot i fun sl => sl.withoutRequest k
  s.setCart { s.cart with transaction := some { slot := i, work := w }, lastServed := i }

/-- The challenge of a transaction and the response expected of a genuine tag (R91, R95; logs 7, 8). -/
def challengeWork (draws : Nat) (serial : Serial) : LineWork :=
  let bytes := Config.randomChallenge draws
  .challenge bytes (Config.tagResponse (Config.tagKey Config.familyKey serial) bytes)

/-- The slots considered in turn. A DEBIT request with a pending debit of 0 is removed and passed over (R113). -/
def State.lineGrantFrom (s : State) : List (Fin 4) → State
  | [] => s
  | i :: rest =>
    match (s.slot i).grantable with
    | none => s.lineGrantFrom rest
    | some .identify => s.beginTransaction i .identify .identify
    | some .challenge =>
      s.drawn.beginTransaction i .challenge (challengeWork s.draws ((s.slot i).serial.getD 0))
    | some .debit =>
      if (s.slot i).pending = 0 then (s.changeSlot i fun sl => sl.withoutRequest .debit).lineGrantFrom rest
      else s.beginTransaction i .debit (.debit (s.slot i).pending)

/-- The free line is granted (R90). -/
def State.lineGrant (s : State) : State :=
  if s.cart.transaction.isSome then s else s.lineGrantFrom (inTurn s.cart.lastServed)

/-! ## The sheet queue's take and the end of an event -/

/-- A take begins when the queue holds an entry (R66). -/
def State.beginTake (s : State) : State :=
  if s.queue.entries.isEmpty then s else s.setQueue { s.queue with taking := true }

/-- The output line's grant (R174). -/
def State.arbitrate (s : State) : State := s.setLink s.link.arbitrate

/-- What the part does by itself at the end of an event (log 17). -/
def State.finish (s : State) : State :=
  s.updateLevels.updateAvailability.cipherGrant.fillTake.lineGrant.beginTake.arbitrate

end Sys2Proof.Machine
end

