-- ==== Sys2Proof/Machine/Settle.lean ====
section
/-! DEFINITION. Money: the credit stage and its effects (R56 to R59), settlement (R41 to R46), removal of a job (R54), and
the end of the session (R17). -/

namespace Sys2Proof.Machine

/-! ## Credit stage (R57, R58) -/

/-- A job that the entry of its owner into STOPPED stops (R58). -/
def Job.stopsOnCredit (j : Job) : Bool := j.active && j.kind != .scan

/-- The owner's jobs are stopped in increasing job number, each JOB_STOP followed by its STREAM_HALT (R58). -/
def State.stopJobs (s : State) (cause : StopCause) (numbers : List Nat) : State :=
  numbers.foldl (fun s n => s.stopJob n cause) s

/-- The numbers of an account's jobs that meet a condition, in increasing order. -/
def State.jobNumbers (s : State) (p : Nat) (f : Job → Bool) : List Nat := ((s.jobsOf p).filter f).map (·.number)

/-- The stage of an account re-evaluated (R57), with STAGE_CHANGE and the effects of an entry into STOPPED (R58). -/
def State.reevaluate (s : State) (p : Nat) : State :=
  match s.account p with
  | none => s
  | some a =>
    let stage := stageAfter s.settings a.stage (s.available p)
    if stage = a.stage then s
    else
      let s := (s.changeAccount p fun a => { a with stage := stage }).post
        (.stageChange p a.userNumber a.stage stage (s.available p))
      if stage = .stopped then s.stopJobs .credit (s.jobNumbers p Job.stopsOnCredit) else s

/-- Every present account re-evaluated in increasing position (R59). -/
def State.reevaluateAll (s : State) : State := (s.accounts.map Prod.fst).foldl State.reevaluate s

/-! ## Settlement (R41) -/

/-- What a charge draws: from the hold, from the balance, and what goes to arrears (R41). -/
structure Draw where
  hold : Nat
  balance : Nat
  arrears : Nat
  deriving DecidableEq, Repr

/-- The draws of a charge `c` on hold remaining `h` and available amount `a` (R41). -/
def drawOf (c h a : Nat) : Draw :=
  let g := min c h
  let d := min c (a + g)
  { hold := g, balance := d, arrears := c - d }

/-- The job's part of a settlement (R41 steps 1, 3 and 4). -/
def Job.drawn (j : Job) (c : Nat) (d : Draw) : Job :=
  { j with holdRemaining := j.holdRemaining - d.hold, pointsCharged := j.pointsCharged + c,
           pointsDrawn := j.pointsDrawn + d.balance, pointsArrears := j.pointsArrears + d.arrears }

/-- The account's part of a settlement (R41 steps 2 and 3). -/
def Account.drawn (a : Account) (d : Draw) : Account :=
  { a with balance := a.balance - d.balance, arrears := satAdd Config.maxMoney a.arrears d.arrears }

/-- Counts of one settlement (R42, R44). -/
structure Counts where
  sheets : Nat := 0
  mono : Nat := 0
  colour : Nat := 0
  duplex : Nat := 0
  pages : Nat := 0
  deriving DecidableEq, Repr

def Job.counted (j : Job) (k : Counts) : Job :=
  { j with sheets := j.sheets + k.sheets, monoSides := j.monoSides + k.mono, colourSides := j.colourSides + k.colour,
           scanPages := j.scanPages + k.pages }

/-- The meters of a settlement (R42, R44, R45). -/
def Counts.meters (k : Counts) (points arrears unattributed : Nat) : MeterAdds :=
  { monoSides := k.mono, colourSides := k.colour, duplexSheets := k.duplex, totalSheets := k.sheets,
    scanPages := k.pages, unattributedSheets := unattributed, pointsCharged := points, arrearsPoints := arrears }

/-- A charge settled against a job: money, counters and meters (R41, R42, R44), without the stage. -/
def State.settleMoney (s : State) (j : Job) (c : Nat) (k : Counts) : State :=
  let d := drawOf c j.holdRemaining (s.available j.owner)
  let s := s.changeJob j.number fun j => (j.drawn c d).counted k
  let s := s.changeAccount j.owner fun a => { a.drawn d with counters := a.counters.addAll k.mono k.colour k.pages c }
  s.addMeters (k.meters c d.arrears 0)

/-- Counts settled to the house account with no balance drawn (R45). -/
def State.settleHouse (s : State) (c : Nat) (k : Counts) : State :=
  (s.setHouse (s.house.addAll k.mono k.colour k.pages c)).addMeters (k.meters c 0 k.sheets)

/-- The counts of a sheet from its charge result (R42). -/
def ChargeResult.counts (r : ChargeResult) : Counts :=
  { sheets := 1, mono := r.sidesOf .mono, colour := r.sidesOf .colour, duplex := if r.sides.length = 2 then 1 else 0 }

/-- The first colour side on a COPY or PRINT job opened MONO sets the mark and posts the notice (R42). -/
def State.noteColour (s : State) (j : Job) (r : ChargeResult) : State :=
  if 0 < r.sidesOf .colour ∧ (j.kind = .copy ∨ j.kind = .print) ∧ j.colourClass = .mono ∧ j.colourUnexpected = false then
    (s.changeJob j.number fun j => { j with colourUnexpected := true }).post
      (.colourUnexpected j.number (s.userNumber j.owner))
  else s

/-- The job's state after a settled sheet: OPEN goes to RUNNING, 1,000,000 sheets stop it (R43). -/
def State.sheetState (s : State) (n : Nat) : State :=
  let s := s.changeJob n fun j => if j.state = .opened then { j with state := .running } else j
  match s.job n with
  | none => s
  | some j => if Config.sheetStop ≤ j.sheets then s.stopJob n .sheetLimit else s

/-- The stage is re-evaluated when the settlement changed the available amount (R46). -/
def State.reevaluateIf (s : State) (before p : Nat) : State := if s.available p = before then s else s.reevaluate p

/-- A sheet settled against its job (R41 to R43, R46). -/
def State.settleSheet (s : State) (j : Job) (r : ChargeResult) : State :=
  ((((s.settleMoney j r.charge r.counts).noteColour j r).sheetState j.number).reevaluateIf (s.available j.owner) j.owner)

/-- An unattributed sheet (R45). -/
def State.settleUnattributed (s : State) (r : ChargeResult) : State := s.settleHouse r.charge r.counts

/-- A scan page settled against its SCAN job, or to the house account past the counting limit (R44). -/
def State.settlePage (s : State) (j : Job) (c : Nat) : State :=
  if j.scanPages < Config.countingLimit then
    (s.settleMoney j c { pages := 1 }).reevaluateIf (s.available j.owner) j.owner
  else s.settleHouse c { pages := 1 }

/-! ## Removal of a job (R54) -/

/-- The outcome of a BOX_PRINT job's document at removal (R54 step 2). -/
def State.boxOutcome (s : State) (j : Job) : DocOutcome :=
  match j.document.bind s.document with
  | none => .gone
  | some _ => if j.eraseAfterPrint ∧ 1 ≤ j.sheets then .erased else .kept

/-- The document of a BOX_PRINT job is erased, or unbound and kept (R54 step 2). -/
def State.releaseDocument (s : State) (j : Job) : State :=
  match j.document with
  | none => s
  | some d =>
    match s.boxOutcome j with
    | .erased => s.eraseDocument d
    | .kept => s.changeDocument d fun x => { x with job := none }
    | .gone => s
    | .stored => s

/-- The JOB_DONE summary (R54). -/
def State.summary (s : State) (j : Job) (e : EndMark) (o : Option DocOutcome) : JobSummary :=
  { number := j.number, kind := j.kind, user := s.userNumber j.owner, endMark := e, stopCause := j.stopCause,
    initialHold := j.initialHold, short := j.short, holdReleased := j.holdRemaining, sheets := j.sheets,
    monoSides := j.monoSides, colourSides := j.colourSides, scanPages := j.scanPages, pointsCharged := j.pointsCharged,
    pointsDrawn := j.pointsDrawn, pointsArrears := j.pointsArrears, colourUnexpected := j.colourUnexpected,
    document := j.document, outcome := o }

/-- The record leaves the table and its hold with it; JOB_DONE; the stage (R54 steps 1 and 3 to 5). -/
def State.dropJob (s : State) (j : Job) (e : EndMark) (o : Option DocOutcome) : State :=
  ((s.setJobs { s.jobs with jobs := Table.drop s.jobs.jobs j.number }).post (.jobDone (s.summary j e o))).reevaluateIf
    (s.available j.owner) j.owner

/-- Removal of a COPY, PRINT or BOX_PRINT job (R54). A bound stream is unbound at or before the removal (R135). -/
def State.removeJob (s : State) (j : Job) (e : EndMark) : State :=
  if j.kind = .boxPrint then (s.releaseDocument j).dropJob j e (some (s.boxOutcome j)) else s.dropJob j e none

/-- The outcome and the end mark of a SCAN job at its close (R50). -/
def State.scanOutcome (s : State) (j : Job) : EndMark × DocOutcome :=
  if j.scanComplete then (.complete, .stored)
  else if (j.document.bind s.document).isSome then (.abandoned, .erased) else (.abandoned, .gone)

/-- The document of a closed SCAN job becomes STORED and unbound, or is erased (R50, R141). -/
def State.settleScanDocument (s : State) (j : Job) : State :=
  match j.document with
  | none => s
  | some d =>
    if j.scanComplete then s.changeDocument d fun x => { x with state := .stored, job := none } else s.eraseDocument d

/-- Removal of a SCAN job at its close (R50). -/
def State.removeScanJob (s : State) (j : Job) : State :=
  (s.settleScanDocument j).dropJob j (s.scanOutcome j).1 (some (s.scanOutcome j).2)

/-- A CLOSING job is removed UNSETTLED (R53). -/
def State.expireDrain (s : State) (n : Nat) : State :=
  match s.job n with
  | none => s
  | some j => if j.state = .closing then s.removeJob j .unsettled else s

/-! ## The end of the session (R17) -/

/-- One BOX_PRINT job of the ended session's account is stopped, and its stream halts after the JOB_STOP (R17). -/
def State.endBoxJob (s : State) (n : Nat) : State :=
  let stream := (s.job n).bind (·.stream)
  let s := s.stopJob n .sessionEnd
  match stream with
  | some i => s.halt i .sessionEnd
  | none => s

/-- A RELEASE stream in HOLD or FLOW whose job an account owns (R17 step 3). -/
def State.releaseOf (s : State) (p : Nat) (i : Fin 4) : Bool :=
  (s.stream i).kind == some .release && (s.stream i).holdOrFlow
    && ((((s.stream i).job.bind s.job).map (·.owner)) == some p)

/-- The OPEN session ends with a cause and the effects of R17. -/
def State.endSession (s : State) (cause : SessionEndCause) : State :=
  match s.session with
  | none => s
  | some se =>
    let p := se.position
    let s := (s.setSession none).post (.sessionEnd cause (s.userNumber p))
    let s := (s.jobNumbers p fun j => j.active && j.kind == .boxPrint).foldl State.endBoxJob s
    s.haltAll .sessionEnd (fourIndices.filter (s.releaseOf p))

end Sys2Proof.Machine
end

