-- ==== Sys2Proof/Machine/Requests.lean ====
section
/-! DEFINITION. The taking of a request frame by the link interface (R172, R173), shared by the 35 requests. -/

namespace Sys2Proof.Machine

/-- What a command of the model answers: every event of the manual leads to a next state. -/
abbrev Answered := Host.Outcome State Fault Refusal

/-- A reply is placed in the request slot and becomes ready (R173). -/
def State.reply (s : State) (cls : Byte) (body : List Byte) : State :=
  s.setLink (s.link.placeReply { replyClass := cls, body := body })

/-- An event taken outside a supply reset, with what the part does by itself at its end; nothing is received in a reset
(R150, R180; log 24). -/
def outsideReset (s : State) (event : State → State) : State :=
  if s.resetting.isSome then s else (event s).finish

/-- A complete frame with a good check: served when the request slot is empty, else answered BUSY or discarded
(R172, R173). -/
def requestFrame (cls : Byte) (serve : State → Served) (s : State) : State :=
  outsideReset s fun s =>
    if s.link.requestSlot.isNone then (serve s).1.reply (replyClass cls) (serve s).2
    else s.setLink (s.link.turnAway cls)

/-- The stage of an account, as a byte. -/
def State.stageByte (s : State) (p : Nat) : List Byte := enumByte (((s.account p).map fun a => a.stage.code).getD 0)

/-- The number of documents an account owns. -/
def State.ownedCount (s : State) (p : Nat) : Nat := s.store.docs.countP fun d => d.owner == p

end Sys2Proof.Machine
end

