-- ==== Sys2Proof/Machine/Intake.lean ====
section
/-! DEFINITION. The intake on the scan port (R157 to R159) and on the image link (R161), and the stream idle expiry (R160). -/

namespace Sys2Proof.Machine

/-! ## Shared by the two ports -/

/-- What has been written of a frame that has not ended (R128; log 10). -/
def arrivingBytes (draw n : Nat) : List Byte := (List.range n).map (Config.arrivingByte draw)

/-- A payload is written into the stream's intake half as it arrives (R128). -/
def State.writeArrival (s : State) (i : Fin 4) (n : Nat) : State :=
  (s.writeHalf (s.stream i) (s.stream i).intake (arrivingBytes s.draws n)).drawn

/-- The port writes zeros over every byte it wrote of a frame that is not stored (R128). -/
def State.clearArrival (s : State) (i : Fin 4) (writing : Bool) : State :=
  if writing then s.zeroHalf (s.stream i) (s.stream i).intake else s

/-- A stored frame's bytes stand from the start of the intake half, zeros beyond them (R128). -/
def State.storeArrival (s : State) (i : Fin 4) (bytes : List Byte) : State :=
  (s.zeroHalf (s.stream i) (s.stream i).intake).writeHalf (s.stream i) (s.stream i).intake bytes

def Stream.countRefused (st : Stream) : Stream := { st with refused := satAdd Config.maxNumber st.refused 1 }

def Stream.countDuplicate (st : Stream) : Stream :=
  { st with duplicates := satAdd Config.maxNumber st.duplicates 1, checkErrors := 0 }

/-- A failed check: check errors rise by 1, and the third in a row halts the stream (R158, R161). -/
def State.checkFailed (s : State) (i : Fin 4) : State :=
  let n := min 3 ((s.stream i).checkErrors + 1)
  let s := s.changeStream i fun st => { st with checkErrors := n }
  if n = 3 then s.halt i .check else s

/-- The job of a stream leaves OPEN when its stream stores its first band (R47). -/
def State.runJob (s : State) (i : Fin 4) : State :=
  match (s.stream i).job with
  | none => s
  | some n => s.changeJob n fun j => if j.state = .opened then { j with state := .running } else j

/-- What a frame's end rules: the answer, and what it does to the stream (R158, R161). -/
inductive Ruling where
  | refusedUncounted
  | refused
  | checkFailed
  | halted (cause : HaltCause)
  | duplicate
  | stored
  deriving DecidableEq, Repr

/-- The answer a ruling gives (R158, R161). -/
def Ruling.answer : Ruling → Answer
  | .refusedUncounted => .refuse
  | .refused => .refuse
  | .checkFailed => .refuseCheck
  | .halted _ => .refuse
  | .duplicate => .accept
  | .stored => .accept

/-- The effect of a ruling other than STORED on the stream and on the bytes written (R128, R158, R161). -/
def State.notStored (s : State) (i : Fin 4) (writing : Bool) (r : Ruling) : State :=
  let s := s.clearArrival i writing
  match r with
  | .refusedUncounted => s
  | .refused => s.changeStream i Stream.countRefused
  | .checkFailed => s.checkFailed i
  | .halted cause => s.halt i cause
  | .duplicate => s.changeStream i Stream.countDuplicate
  | .stored => s

/-! ## The scan port -/

/-- Whether the payload is written into the intake half: of an ENCODE stream alone (R157; log 37). -/
def Stream.takesScan (st : Stream) (h : ScanHeader) : Bool :=
  st.kind == some .encode && st.state == .flow && (st.half st.intake).state == .empty && decide (h.length.toNat ≤ st.halfSize)

/-- An arrival begins on the scan port (R157). One that begins while another has not ended is no event (log 6). -/
def State.scanBegin (s : State) (h : ScanHeader) : State :=
  if s.ports.scan.isSome then s
  else
    match State.streamIndex h.stream.toNat with
    | none => s.setPorts { s.ports with scan := some { header := h, writing := false } }
    | some i =>
      let w := (s.stream i).takesScan h
      let s := s.setPorts { s.ports with scan := some { header := h, writing := w } }
      if w then s.writeArrival i h.length.toNat else s

/-- The rows of R158, in order. Those from the sequence bit on are an ENCODE stream's; a RELEASE stream in FLOW refuses the
frame there and counts it (log 37). -/
def Stream.ruleScan (st : Stream) (a : ScanArrival) (good : Bool) : Ruling :=
  if st.state = .idle then .refusedUncounted
  else if st.state ≠ .flow then .refused
  else if st.lastBand then .refused
  else if !good then .checkFailed
  else if st.halfSize < a.header.length.toNat then .halted .oversize
  else if st.kind ≠ some .encode then .refused
  else if flagSeq a.header.flags != st.seqBit then .duplicate
  else if !a.writing then .halted .overrun
  else if Config.maxNumber ≤ st.bands then .halted .oversize
  else .stored

/-- The page class of a band: its own when the page start mark is set (R159 step 2). -/
def Stream.classAfter (st : Stream) (h : ScanHeader) : Nat := if st.pageStart then h.sizeClass.toNat else st.pageClass

/-- The marks a stored band carries: last-of-document makes it last-of-page too (R159 steps 1 and 3). -/
def storedMarks (f : Byte) : Byte := if flagLastOfDocument f then marksOf f ||| 0x04#8 else marksOf f

/-- The stream record after a frame is stored (R159 steps 1 to 3 and 5 to 7). Until its grant the half's header shows band
number and page number 0 (log 43). -/
def Stream.storedScan (st : Stream) (h : ScanHeader) : Stream :=
  let header : BandHeader :=
    { flags := storedMarks h.flags, sizeClass := st.classAfter h, length := h.length.toNat, band := 0, page := 0 }
  let st' := st.setHalf st.intake { state := .filled, header := some header }
  { st' with
    pageClass := st.classAfter h
    pageStart := flagLastOfPage h.flags || flagLastOfDocument h.flags
    seqBit := !st.seqBit
    bands := satAdd Config.maxNumber st.bands 1
    checkErrors := 0
    intake := st.following st.intake
    lastBand := st.lastBand || flagLastOfDocument h.flags
    idle := if flagLastOfDocument h.flags then none else some 0
    stored := true }

/-- The document's marks after a stored band: its size class on the first page, its colour mark (R140, R159 steps 2 and 4). -/
def Document.withBand (d : Document) (firstPage : Bool) (h : ScanHeader) : Document :=
  { d with sizeClass := if firstPage then h.sizeClass.toNat else d.sizeClass, colour := d.colour || flagColour h.flags }

/-- A band frame stored in FLOW (R159). -/
def State.scanStored (s : State) (i : Fin 4) (h : ScanHeader) (payload : List Byte) : State :=
  let st := s.stream i
  let s := (s.storeArrival i payload).setStream i (st.storedScan h)
  let s := match st.document with
    | none => s
    | some n => s.changeDocument n fun d => d.withBand (st.pageStart && !st.stored) h
  s.runJob i

/-- The payload of a complete frame. -/
def ScanTail.payload : ScanTail → List Byte
  | .complete p _ => p
  | .stopBitError => []

/-- The effect of the end of an arrival on the scan port (R158). -/
def State.scanRuled (s : State) (i : Fin 4) (a : ScanArrival) (good : Bool) (payload : List Byte) : State :=
  match (s.stream i).ruleScan a good with
  | .stored => s.scanStored i a.header payload
  | r => s.notStored i a.writing r

/-- The answer of the end of an arrival on the scan port (R158). -/
def State.scanAnswerOf (s : State) (a : ScanArrival) (good : Bool) : Answer :=
  match State.streamIndex a.header.stream.toNat with
  | none => .refuse
  | some i => ((s.stream i).ruleScan a good).answer

/-- The arrival on the scan port ends: ruled, and answered on SCAN ANSWER (R158). -/
def State.scanEnd (s : State) (good : ScanHeader → Bool) (payload : List Byte) : State :=
  match s.ports.scan with
  | none => s
  | some a =>
    let answer := s.scanAnswerOf a (good a.header)
    let t := s.setPorts { s.ports with scan := none, scanAnswer := some answer }
    match State.streamIndex a.header.stream.toNat with
    | none => t
    | some i => t.scanRuled i a (good a.header) payload

/-! ## The image link -/

/-- Whether a stream is the RELEASE stream bound to a document (R161). -/
def Stream.releases (st : Stream) (document : Nat) : Bool := st.kind == some .release && st.document == some document

/-- The RELEASE stream a frame is routed to (R161). -/
def State.imgStream (s : State) (h : ImgHeader) : Option (Fin 4) :=
  fourIndices.find? fun i => (s.stream i).releases h.document.toNat

/-- Whether the ciphertext is written into the intake half (R161). -/
def Stream.takesImg (st : Stream) (h : ImgHeader) : Bool :=
  st.state == .flow && (st.half st.intake).state == .empty && decide (h.length.toNat ≤ st.halfSize)
    && h.band.toNat == st.nextBand

/-- An arrival begins on the image link (R161). One that begins while another has not ended is no event (log 6). -/
def State.imgBegin (s : State) (h : ImgHeader) : State :=
  if s.ports.img.isSome then s
  else
    match s.imgStream h with
    | none => s.setPorts { s.ports with img := some { header := h, stream := none, writing := false } }
    | some i =>
      let w := (s.stream i).takesImg h
      let s := s.setPorts { s.ports with img := some { header := h, stream := some i, writing := w } }
      if w then s.writeArrival i (roundUnits h.length.toNat) else s

/-- The rows of R161 for a RELEASE stream, in order. -/
def Stream.ruleImg (st : Stream) (a : ImgArrival) (good : Bool) : Ruling :=
  if st.state = .idle then .refusedUncounted
  else if st.state = .halt ∨ st.state = .done then .refused
  else if !good then .checkFailed
  else if st.halfSize < a.header.length.toNat then .halted .oversize
  else if 0 < st.nextBand ∧ a.header.band.toNat = st.nextBand - 1 then .duplicate
  else if a.header.band.toNat ≠ st.nextBand then .halted .sequence
  else if st.state = .hold ∨ st.lastBand ∨ a.writing = false then .refused
  else .stored

/-- The stream record after a frame is stored, `last` telling whether its band is the document's last (R161). -/
def Stream.storedImg (st : Stream) (h : ImgHeader) (tag : BitVec 64) (last : Bool) : Stream :=
  let st' := st.setHalf st.intake { state := .filled, header := some h.stored, tag := some tag }
  { st' with
    nextBand := satAdd Config.maxNumber st.nextBand 1
    bands := satAdd Config.maxNumber st.bands 1
    checkErrors := 0
    intake := st.following st.intake
    lastBand := st.lastBand || last
    idle := if last then none else some 0
    stored := true }

/-- Whether a band is the last of the stream's document (R161, R167). -/
def State.isLastBand (s : State) (document : Option Nat) (band : Nat) : Bool :=
  match document.bind s.document with
  | none => false
  | some d => band + 1 == d.bands

/-- An image frame stored in FLOW (R161). -/
def State.imgStored (s : State) (i : Fin 4) (h : ImgHeader) (ciphertext : List Byte) (tag : BitVec 64) : State :=
  let st := s.stream i
  let last := s.isLastBand st.document h.band.toNat
  ((s.storeArrival i ciphertext).setStream i (st.storedImg h tag last)).runJob i

/-- The ciphertext and the band tag of a complete frame. -/
def ImgTail.ciphertext : ImgTail → List Byte
  | .complete c _ _ => c
  | .stopBitError => []

def ImgTail.tag : ImgTail → BitVec 64
  | .complete _ t _ => t
  | .stopBitError => 0

/-- The effect of the end of an arrival on the image link (R161). -/
def State.imgRuled (s : State) (i : Fin 4) (a : ImgArrival) (good : Bool) (tail : ImgTail) : State :=
  match (s.stream i).ruleImg a good with
  | .stored => s.imgStored i a.header tail.ciphertext tail.tag
  | r => s.notStored i a.writing r

/-- The stream that rules an arrival: the one it was routed to, while it is still bound to the document (R161; log 27). -/
def State.imgRoute (s : State) (a : ImgArrival) : Option (Fin 4) :=
  a.stream.filter fun i => (s.stream i).releases a.header.document.toNat

def State.imgAnswerOf (s : State) (a : ImgArrival) (good : Bool) : Answer :=
  match s.imgRoute a with
  | none => .refuse
  | some i => ((s.stream i).ruleImg a good).answer

/-- The arrival on the image link ends: ruled, and answered on IMG ANSWER (R161). -/
def State.imgEnd (s : State) (good : ImgHeader → Bool) (tail : ImgTail) : State :=
  match s.ports.img with
  | none => s
  | some a =>
    let answer := s.imgAnswerOf a (good a.header)
    let t := s.setPorts { s.ports with img := none, imgAnswer := some answer }
    match s.imgRoute a with
    | none => t
    | some i => t.imgRuled i a (good a.header) tail

/-! ## The stream idle expiry (R160) -/

/-- The idle timer reaches the stream idle limit: the stream halts with cause IDLE (R160). -/
def State.streamIdle (s : State) (i : Fin 4) : State := if (s.stream i).idle.isSome then s.halt i .idle else s

/-! ## The commands -/

def execScanArrivalBegin (header : ScanHeader) (s : State) : Answered := .next (outsideReset s fun s => s.scanBegin header)

def execScanFrameEnd (tail : ScanTail) (s : State) : Answered :=
  .next (outsideReset s fun s => s.scanEnd (fun h => scanCheckGood h tail) tail.payload)

/-- A gap breaks the frame: it is ruled as one whose check has failed (R157). -/
def execScanGapExpiry (s : State) : Answered := .next (outsideReset s fun s => s.scanEnd (fun _ => false) [])

def execImgArrivalBegin (header : ImgHeader) (s : State) : Answered := .next (outsideReset s fun s => s.imgBegin header)

def execImgFrameEnd (tail : ImgTail) (s : State) : Answered :=
  .next (outsideReset s fun s => s.imgEnd (fun h => imgCheckGood h tail) tail)

/-- A gap breaks the frame: it is ruled as one whose check has failed (R161). -/
def execImgGapExpiry (s : State) : Answered := .next (outsideReset s fun s => s.imgEnd (fun _ => false) .stopBitError)

def execStreamIdleExpiry (stream : Fin 4) (s : State) : Answered := .next (outsideReset s fun s => s.streamIdle stream)

end Sys2Proof.Machine
end

