-- ==== Sys2Proof/Machine/Cipher.lean ====
section
/-! DEFINITION. The completions of the cipher unit (R163 to R165) and of the sendings on the image link and the video port
(R166, R167). -/

namespace Sys2Proof.Machine

/-! ## The cipher functions (R163, R164; logs 8 and 9) -/

/-- The header of the image frame of a band (chapter 11, Image frame). -/
def BandHeader.image (h : BandHeader) (document : Nat) : ImgHeader :=
  { document := BitVec.ofNat 16 document, band := BitVec.ofNat 16 h.band, page := BitVec.ofNat 16 h.page, flags := h.flags,
    sizeClass := BitVec.ofNat 8 h.sizeClass, length := BitVec.ofNat 16 h.length }

/-- The bytes of a band combined with the keyed stream function, from byte `k` on, 16 bytes to a unit (R163; log 9). -/
def combine (key : Key) (document band : Nat) : (k : Nat) → List Byte → List Byte
  | _, [] => []
  | k, b :: bs => (b ^^^ Config.keyStream key document band (k / 16) (k % 16)) :: combine key document band (k + 1) bs

/-- The band tag: the keyed check over the header fields and the ciphertext (R163, R164). -/
def bandTag (key : Key) (document : Nat) (h : BandHeader) (ciphertext : List Byte) : BitVec 64 :=
  Config.keyedCheck key ((h.image document).bytes ++ ciphertext)

/-- The half is in the cipher unit's hands no more: it is FILLED, as at the grant. -/
def Stream.givenBack (st : Stream) (b : Bool) : Stream := st.setHalf b { st.half b with state := .filled }

/-- A half of a halted stream waits for its halt fill after the cipher unit's completion (R131, R165), shown FILLED with its
header until the fill completes (log 14). -/
def State.discardWork (s : State) (i : Fin 4) (b : Bool) : State :=
  (s.changeStream i fun st => st.setHalf b { st.half b with state := .filled, waiting := true }).joinFill i [b]

/-- The band of a half: its header and the bytes of its whole 16-byte units. -/
def State.bandBytes (s : State) (i : Fin 4) (b : Bool) (h : BandHeader) : List Byte :=
  s.readHalf (s.stream i) b (roundUnits h.length)

/-- The half goes to SENDING with the cipher unit's result written over it (R163, R164). -/
def State.sendHalf (s : State) (i : Fin 4) (b : Bool) (bytes : List Byte) (tag : Option (BitVec 64)) : State :=
  (s.writeHalf (s.stream i) b bytes).changeStream i fun st => st.setHalf b { st.half b with state := .sending, tag := tag }

/-- Encryption completes (R163). -/
def State.encrypted (s : State) (i : Fin 4) (b : Bool) (h : BandHeader) : State :=
  let document := (s.stream i).document.getD 0
  let key := s.documentKey document
  let ciphertext := combine key document h.band 0 (s.bandBytes i b h)
  s.sendHalf i b ciphertext (some (bandTag key document h ciphertext))

/-- The stream's last band sent or being sent (R168). -/
def Stream.sends (st : Stream) (band : Nat) : Stream := { st with lastSent := some band }

/-- A RELEASE band's tag is compared, then the band is decrypted, or the stream halts with cause AUTH (R164). -/
def State.released (s : State) (i : Fin 4) (b : Bool) (h : BandHeader) : State :=
  let document := (s.stream i).document.getD 0
  let key := s.documentKey document
  let ciphertext := s.bandBytes i b h
  if ((s.stream i).half b).tag = some (bandTag key document h ciphertext) then
    (s.sendHalf i b (combine key document h.band 0 ciphertext) ((s.stream i).half b).tag).changeStream i fun st => st.sends h.band
  else (s.changeStream i fun st => st.givenBack b).halt i .auth

/-- The completion of the cipher unit's work on a stream of the given kind (R163 to R165). -/
def State.cipherCompleted (s : State) (k : StreamKind) (result : State → Fin 4 → Bool → BandHeader → State) : State :=
  match s.cipher.work with
  | none => s
  | some w =>
    if (s.stream w.stream).kind = some k then
      let s := s.setCipher { s.cipher with work := none }
      if (s.stream w.stream).state = .halt then s.discardWork w.stream w.half
      else
        match ((s.stream w.stream).half w.half).header with
        | none => s
        | some h => result s w.stream w.half h
    else s

/-! ## Sendings (R166, R167) -/

/-- The half of a stream that is SENDING. -/
def Stream.sendingHalf (st : Stream) : Option Bool :=
  if st.half0.state = .sending then some false else if st.half1.state = .sending then some true else none

/-- The stream of a kind that has a half SENDING, and the half. -/
def State.sendingOn (s : State) (k : StreamKind) : Option (Fin 4 × Bool) :=
  fourIndices.findSome? fun i => if (s.stream i).kind = some k then (s.stream i).sendingHalf.map fun b => (i, b) else none

/-- Step 1 of a sending's completion: the half is zero and EMPTY (R128, R166, R167). -/
def State.emptyHalf (s : State) (i : Fin 4) (b : Bool) : State :=
  (s.zeroHalf (s.stream i) b).changeStream i fun st => st.setHalf b {}

/-- The content of STREAM_DONE (R166). -/
def State.doneReport (s : State) (i : Fin 4) : DoneReport :=
  let st := s.stream i
  { stream := i, job := st.job, document := st.document, bands := st.bands, pages := st.pages, duplicates := st.duplicates,
    refused := st.refused }

/-- The stream enters DONE, and STREAM_DONE is posted (R166, R167). -/
def State.enterDone (s : State) (i : Fin 4) : State :=
  let s := s.changeStream i fun st => { st with state := .done, idle := none }
  s.post (.streamDone (s.doneReport i))

/-- The job's scan complete mark is set when its ENCODE stream enters DONE (R166). -/
def State.markScanComplete (s : State) (i : Fin 4) : State :=
  match (s.stream i).job with
  | none => s
  | some n => s.changeJob n fun j => { j with scanComplete := true }

/-- A page's last band has been sent: pages rise, and the page is charged (R31, R166 step 3). -/
def State.pageSent (s : State) (i : Fin 4) (size : Nat) : State :=
  let st := s.stream i
  let s := s.changeStream i fun st => { st with pages := satAdd Config.maxNumber st.pages 1 }
  let s := match st.document with
    | none => s
    | some n => s.changeDocument n fun d => { d with pages := satAdd Config.maxNumber d.pages 1 }
  match st.job.bind s.job with
  | none => s
  | some j => s.settlePage j (s.pricePage size)

/-- Step 2: the document's band count rises (R166). -/
def State.bandSent (s : State) (i : Fin 4) : State :=
  match (s.stream i).document with
  | none => s
  | some n => s.changeDocument n fun d => { d with bands := satAdd Config.maxNumber d.bands 1 }

/-- The sending of an ENCODE half completes (R166). -/
def State.imgSent (s : State) (i : Fin 4) (b : Bool) (h : BandHeader) : State :=
  let s := (s.emptyHalf i b).bandSent i
  let s := if flagLastOfPage h.flags then s.pageSent i h.sizeClass else s
  if flagLastOfDocument h.flags ∧ (s.stream i).holdOrFlow then (s.markScanComplete i).enterDone i else s

/-- Pages and page number after a page's last band has been sent on the video port, in HALT as in every state (R167; log 15). -/
def Stream.pageReleased (st : Stream) : Stream :=
  { st with pages := satAdd Config.maxNumber st.pages 1, page := satAdd Config.maxNumber st.page 1 }

/-- The sending of a RELEASE half completes (R167). -/
def State.videoSent (s : State) (i : Fin 4) (b : Bool) (h : BandHeader) : State :=
  let s := s.emptyHalf i b
  let s := if flagLastOfPage h.flags then s.changeStream i Stream.pageReleased else s
  if s.isLastBand (s.stream i).document h.band ∧ (s.stream i).holdOrFlow then s.enterDone i else s

/-- The completion of the sending on the port of a kind. -/
def State.sendCompleted (s : State) (k : StreamKind) (sent : State → Fin 4 → Bool → BandHeader → State) : State :=
  match s.sendingOn k with
  | none => s
  | some (i, b) =>
    match ((s.stream i).half b).header with
    | none => s
    | some h => sent s i b h

/-! ## The commands -/

def execCipherEncodeComplete (s : State) : Answered :=
  .next (outsideReset s fun s => s.cipherCompleted .encode State.encrypted)

def execCipherReleaseComplete (s : State) : Answered :=
  .next (outsideReset s fun s => s.cipherCompleted .release State.released)

def execImgSendComplete (s : State) : Answered := .next (outsideReset s fun s => s.sendCompleted .encode State.imgSent)
def execVideoSendComplete (s : State) : Answered := .next (outsideReset s fun s => s.sendCompleted .release State.videoSent)

end Sys2Proof.Machine
end

