-- ==== Sys2Proof/Machine/Accounts.lean ====
section
/-! DEFINITION. The account requests and the panel session (R1 to R17): LOGIN, LOGOUT, TOUCH, ACCOUNT ADD, ACCOUNT CHANGE,
ACCOUNT UNLOCK, ACCOUNT REMOVE, CREDIT, ACCOUNT READ, and the session idle expiry. -/

namespace Sys2Proof.Machine

/-! ## LOGIN, LOGOUT, TOUCH -/

/-- Step 5 of LOGIN passes: no PIN, or the same digits in the same length (R14). -/
def Account.pinPasses (a : Account) (sent : List Byte) : Bool :=
  match a.pin with
  | none => true
  | some pin => sent == pin

/-- A wrong or missing PIN: the failure count rises by 1, and the fifth locks the account (R14). -/
def Account.pinFailed (a : Account) : Account :=
  if a.failures + 1 < Config.pinFailureLimit then { a with failures := a.failures + 1 }
  else { a with failures := Config.pinFailureLimit, state := .locked }

/-- An accepted LOGIN (R14). -/
def State.acceptLogin (s : State) (p : Nat) (a : Account) : Served :=
  okWith ((s.changeAccount p fun a => { a with failures := 0 }).setSession (some { position := p, idle := 0 }))
    (enumByte a.role.code ++ enumByte a.stage.code ++ be 4 (s.available p))

/-- Step 5 of LOGIN fails (R14). -/
def State.failLogin (s : State) (p : Nat) (a : Account) : Served :=
  refuse (s.changeAccount p Account.pinFailed) (if a.failures + 1 < Config.pinFailureLimit then .badPin else .locked)

/-- LOGIN on a present account, steps 3 to 5 (R14). -/
def State.loginOn (s : State) (p : Nat) (a : Account) (pin : List Byte) : Served :=
  match a.state with
  | .suspended => refuse s .suspended
  | .locked => refuse s .locked
  | .active => if a.pinPasses pin then s.acceptLogin p a else s.failLogin p a

def serveLogin (body : List Byte) (s : State) : Served :=
  withParsed (parseLogin body) s fun r =>
    if s.session.isSome then refuse s .sessionBusy
    else if userInRange r.user then
      match s.findUser r.user with
      | none => refuse s .noAccount
      | some (p, a) => s.loginOn p a r.pin
    else refuse s .noAccount

def serveLogout (body : List Byte) (s : State) : Served :=
  withParsed (parseEmpty body) s fun _ => asSession s fun _ s => okWith (s.endSession .logout) []

def serveTouch (body : List Byte) (s : State) : Served :=
  withParsed (parseEmpty body) s fun _ => asSession s fun _ s => okWith s []

/-! ## ACCOUNT ADD, CHANGE, UNLOCK, REMOVE -/

/-- The PIN a PIN field gives, where its length is in range (R6). -/
def PinField.value : PinField → Option (Option (List Byte))
  | .absent => some none
  | .digits pin => some (some pin)
  | .badLength => none

/-- The account that an accepted ACCOUNT ADD creates (R6). -/
def AddRequest.account (r : AddRequest) (pin : Option (List Byte)) (st : Settings) : Account :=
  { userNumber := r.user, role := r.role, state := .active, pin := pin, failures := 0, colourRight := r.colourRight,
    boxRight := r.boxRight, balance := 0, arrears := 0, stage := stageFresh st 0, counters := {} }

/-- ACCOUNT ADD after authority (R6). -/
def State.addAccount (s : State) (r : AddRequest) : Served :=
  if userInRange r.user then
    match r.pin.value with
    | none => refuse s .range
    | some pin =>
      if (s.findUser r.user).isSome then refuse s .duplicate
      else
        match s.freePosition with
        | none => refuse s .tableFull
        | some p => okWith (s.setAccounts (Table.put s.accounts p (r.account pin s.settings))) (be 1 p)
  else refuse s .range

def serveAccountAdd (body : List Byte) (s : State) : Served :=
  withParsed (parseAccountAdd body) s fun r => asAdmin s fun s => s.addAccount r

/-- What a PIN action leaves as the PIN, where its length is in range (R7). -/
def PinAction.value (act : PinAction) (present : Option (List Byte)) : Option (Option (List Byte)) :=
  match act with
  | .keep => some present
  | .remove => some none
  | .set (.digits pin) => some (some pin)
  | .set .absent => none
  | .set .badLength => none

/-- Whether ACCOUNT CHANGE sets the failure count to 0 (R7). -/
def ChangeRequest.clearsFailures (r : ChangeRequest) (old : AccountState) : Bool :=
  r.action != .keep || (old == .locked && r.state != .locked)

/-- The account after an accepted ACCOUNT CHANGE (R7). -/
def Account.changed (a : Account) (r : ChangeRequest) (pin : Option (List Byte)) : Account :=
  { a with role := r.role, state := r.state, colourRight := r.colourRight, boxRight := r.boxRight, pin := pin,
           failures := if r.clearsFailures a.state then 0 else a.failures }

/-- An accepted ACCOUNT CHANGE, with the session end of R8. -/
def State.applyChange (s : State) (p : Nat) (r : ChangeRequest) (pin : Option (List Byte)) : State :=
  let s := s.changeAccount p fun a => a.changed r pin
  if s.sessionOn p && r.state != .active then s.endSession .accountChange else s

/-- ACCOUNT CHANGE after authority (R7). -/
def State.changeFields (s : State) (r : ChangeRequest) : Served :=
  if userInRange r.user && (r.action.value none).isSome then
    match s.findUser r.user with
    | none => refuse s .noAccount
    | some (p, a) =>
      if s.onlyAdmin p && r.role == .user then refuse s .notPermitted
      else
        match r.action.value a.pin with
        | none => refuse s .range
        | some pin => okWith (s.applyChange p r pin) []
  else refuse s .range

/-- ACCOUNT CHANGE (R7). Without a session it is refused NOT_PERMITTED by R5, though R16 speaks of one that finds the session
NONE and still applies its state change (log 38). -/
def serveAccountChange (body : List Byte) (s : State) : Served :=
  withParsed (parseAccountChange body) s fun r => asAdmin s fun s => s.changeFields r

/-- A request that names a present account by its user number: RANGE, then NO_ACCOUNT (R1). -/
def withUser (s : State) (user : Nat) (serve : Nat → Account → Served) : Served :=
  if userInRange user then
    match s.findUser user with
    | none => refuse s .noAccount
    | some (p, a) => serve p a
  else refuse s .range

def serveAccountUnlock (body : List Byte) (s : State) : Served :=
  withParsed (parseNumber 4 body) s fun user => asAdmin s fun s => withUser s user fun p a =>
    match a.state with
    | .suspended => refuse s .suspended
    | .active | .locked =>
      okWith (s.changeAccount p fun a => { a with state := .active, failures := 0 }) (enumByte AccountState.active.code)

/-- The documents an account owns, in creation order. -/
def State.documentsOf (s : State) (p : Nat) : List Document := s.store.docs.filter fun d => d.owner == p

/-- The account leaves its position, and its documents are erased (R10). -/
def State.removeAccount (s : State) (p : Nat) : State :=
  (s.setStore { s.store with docs := s.store.docs.filter fun d => d.owner != p }).setAccounts (Table.drop s.accounts p)

def serveAccountRemove (body : List Byte) (s : State) : Served :=
  withParsed (parseNumber 4 body) s fun user => asAdmin s fun s => withUser s user fun p _ =>
    if s.onlyAdmin p then refuse s .notPermitted
    else if s.jobsOf p != [] || s.sessionOn p then refuse s .inUse
    else okWith (s.removeAccount p) (be 1 (s.documentsOf p).length)

/-! ## CREDIT and ACCOUNT READ -/

/-- The balance after a CREDIT of the clamped amount `x` (R11). -/
def creditBalance (subtract : Bool) (balance available x : Nat) : Nat :=
  if subtract then balance - min x available else min (balance + x) Config.maxMoney

/-- The amount a CREDIT applies (R11). -/
def creditApplied (subtract : Bool) (balance available x : Nat) : Nat :=
  if subtract then min x available else min (balance + x) Config.maxMoney - balance

/-- An accepted CREDIT (R11). -/
def State.applyCredit (s : State) (p : Nat) (a : Account) (r : CreditRequest) : State :=
  let x := min r.amount Config.maxMoney
  let av := s.available p
  let s := s.changeAccount p fun a =>
    { a with balance := creditBalance r.subtract a.balance av x, arrears := if r.clearArrears then 0 else a.arrears }
  if creditApplied r.subtract a.balance av x = 0 then s else s.reevaluate p

/-- The CREDIT reply (chapter 11): amount taken, amount applied, balance, arrears, available amount, stage. -/
def State.creditReply (s t : State) (p : Nat) (a : Account) (r : CreditRequest) : List Byte :=
  let x := min r.amount Config.maxMoney
  be 4 x ++ be 4 (creditApplied r.subtract a.balance (s.available p) x)
    ++ be 4 (((t.account p).map (·.balance)).getD 0) ++ be 4 (((t.account p).map (·.arrears)).getD 0)
    ++ be 4 (t.available p) ++ t.stageByte p

def serveCredit (body : List Byte) (s : State) : Served :=
  withParsed (parseCredit body) s fun r => asAdmin s fun s => withUser s r.user fun p a =>
    okWith (s.applyCredit p a r) (s.creditReply (s.applyCredit p a r) p a r)

/-- The reply to an ACCOUNT READ of a user account (R12). -/
def State.accountReply (s : State) (p : Nat) (a : Account) : List Byte :=
  be 1 p ++ be 4 a.userNumber ++ enumByte a.role.code ++ enumByte a.state.code ++ flag a.pin.isSome ++ be 1 a.failures
    ++ enumByte a.colourRight.code ++ flag a.boxRight ++ be 4 a.balance ++ be 4 a.arrears ++ be 4 (s.totalHolds p)
    ++ be 4 (s.available p) ++ enumByte a.stage.code ++ a.counters.bytes ++ be 1 (s.jobsOf p).length

/-- ACCOUNT READ after authority: the house account, or the account of a number (R12). -/
def State.readAccount (s : State) (user : Nat) : Served :=
  if user = 0 then okWith s s.house.bytes
  else withUser s user fun p a => okWith s (s.accountReply p a)

/-- The authority of ACCOUNT READ: admin, or the session's own account (R12). -/
def serveAccountRead (body : List Byte) (s : State) : Served :=
  withParsed (parseNumber 4 body) s fun user =>
    match s.session with
    | none => refuse s .noSession
    | some se =>
      if s.isAdmin || (s.account se.position).map (·.userNumber) == some user then s.touchSession.readAccount user
      else refuse s .notPermitted

/-! ## The commands -/

def execLogin (body : List Byte) (s : State) : Answered := .next (requestFrame 1 (serveLogin body) s)
def execLogout (body : List Byte) (s : State) : Answered := .next (requestFrame 2 (serveLogout body) s)
def execTouch (body : List Byte) (s : State) : Answered := .next (requestFrame 3 (serveTouch body) s)
def execAccountAdd (body : List Byte) (s : State) : Answered := .next (requestFrame 4 (serveAccountAdd body) s)
def execAccountChange (body : List Byte) (s : State) : Answered := .next (requestFrame 5 (serveAccountChange body) s)
def execAccountUnlock (body : List Byte) (s : State) : Answered := .next (requestFrame 6 (serveAccountUnlock body) s)
def execAccountRemove (body : List Byte) (s : State) : Answered := .next (requestFrame 7 (serveAccountRemove body) s)
def execCredit (body : List Byte) (s : State) : Answered := .next (requestFrame 8 (serveCredit body) s)
def execAccountRead (body : List Byte) (s : State) : Answered := .next (requestFrame 9 (serveAccountRead body) s)

/-- The idle timer reaches the session idle limit: the session ends with cause IDLE (R15). -/
def execSessionIdleExpiry (s : State) : Answered := .next (outsideReset s fun s => s.endSession .idle)

end Sys2Proof.Machine
end

