-- ==== Sys2Proof/Machine/Documents.lean ====
section
/-! DEFINITION. The document requests and the tamper monitor (R143 to R148): DOCUMENT ERASE, DOCUMENT LIST, TAMPER CLEAR,
and the events of the TAMPER input. -/

namespace Sys2Proof.Machine

/-! ## DOCUMENT ERASE and DOCUMENT LIST -/

/-- The document a request names, where the session's account is an ADMIN or owns it (R143). -/
def State.visibleDocument (s : State) (se : Session) (n : Nat) : Option Document :=
  (s.document n).filter fun d => s.isAdmin || d.owner == se.position

def serveDocumentErase (body : List Byte) (s : State) : Served :=
  withParsed (parseNumber 2 body) s fun n => asSession s fun se s =>
    if n = 0 then refuse s .range
    else
      match s.visibleDocument se n with
      | none => refuse s .noDocument
      | some d =>
        if d.state == .writing || d.job.isSome then refuse s .inUse
        else okWith (s.eraseDocument n) (be 2 n ++ be 1 ((s.eraseDocument n).ownedCount d.owner))

/-- One document of the list; the owner's user number is carried in an admin's list (R144). -/
def State.documentBytes (s : State) (d : Document) : List Byte :=
  be 2 d.number ++ enumByte d.state.code ++ be 2 d.pages ++ be 2 d.bands ++ flag d.colour ++ be 1 d.sizeClass
    ++ flag d.job.isSome ++ optNum 2 d.job ++ optNum 4 (if s.isAdmin then some (s.userNumber d.owner) else none)

/-- The documents a session sees, in creation order (R144). -/
def State.listedDocuments (s : State) (se : Session) : List Document :=
  s.store.docs.filter fun d => s.isAdmin || d.owner == se.position

/-- The DOCUMENT LIST reply (R144). -/
def State.documentsReply (s : State) (se : Session) : List Byte :=
  listField s.documentBytes (s.listedDocuments se) ++ be 1 s.store.docs.length ++ be 1 (s.ownedCount se.position)
    ++ be 1 s.settings.ownerCap ++ enumByte s.settings.boxPolicy.code ++ flag s.tamper.latch

def serveDocumentList (body : List Byte) (s : State) : Served :=
  withParsed (parseEmpty body) s fun _ => asSession s fun se s => okWith s (s.documentsReply se)

/-! ## TAMPER CLEAR (R148) -/

def serveTamperClear (body : List Byte) (s : State) : Served :=
  withParsed (parseEmpty body) s fun _ => asAdmin s fun s =>
    if s.tamper.input then refuse s .busy
    else okWith (s.setTamper { s.tamper with latch := false }) (flag s.tamper.latch)

/-! ## The tamper event (R146, R147) -/

/-- Steps 1, 4 and 6 of a tamper event, on retained memory. -/
def State.tamperRetained (s : State) : State :=
  ((s.setTamper { latch := true, input := true }).setStore { s.store with docs := [] }).addMeters { tamperEvents := 1 }

/-- The jobs a tamper event stops (R146 step 3). -/
def Job.stopsOnTamper (j : Job) : Bool := j.active && (j.kind == .scan || j.kind == .boxPrint)

/-- The scan complete mark of every SCAN job is cleared (R146 step 3). -/
def State.clearScanMarks (s : State) : State :=
  s.setJobs { s.jobs with jobs := s.jobs.jobs.map fun c => (c.1, { c.2 with scanComplete := false }) }

/-- One job stopped, with the STREAM_HALT of its stream if the event halted it (R147). -/
def State.tamperJob (halted : List (Fin 4)) (s : State) (n : Nat) : State :=
  let stream := (s.job n).bind (·.stream)
  let s := s.stopJob n .tamper
  match stream with
  | some i => if halted.contains i then s.postHalt i .tamper else s
  | none => s

/-- The content of TAMPER after one event (R147). -/
def State.tamperReport (s : State) (erased : Nat) : TamperReport :=
  { events := 1, erased := erased, sessionEnded := s.session.isSome, meter := s.meters.tamperEvents, latch := s.tamper.latch }

/-- A tamper event outside a supply reset (R146, R147). -/
def State.tamperTaken (s : State) : State :=
  let halted := fourIndices.filter fun i => (s.stream i).mayHalt .tamper
  let stopped := (s.jobList.filter Job.stopsOnTamper).map (·.number)
  let streamJobs := (s.jobList.filter Job.stopsOnTamper).filterMap (·.stream)
  let t := (halted.foldl (fun s i => s.haltStream i .tamper) s).clearScanMarks.tamperRetained
  let t := t.post (.tamper (t.tamperReport s.store.docs.length))
  let t := stopped.foldl (State.tamperJob halted) t
  let t := (halted.filter fun i => !streamJobs.contains i).foldl (fun s i => s.postHalt i .tamper) t
  t.endSession .tamper

/-- A tamper event in a supply reset is counted for the notice at its end (R147). -/
def State.tamperInReset (s : State) (r : ResetPhase) : State :=
  s.tamperRetained.setResetting
    (some { r with tamperEvents := r.tamperEvents + 1, tamperErased := r.tamperErased + s.store.docs.length })

/-- The TAMPER input goes from released to asserted (R146); while it is asserted it cannot (log 6). -/
def State.tamperAsserted (s : State) : State :=
  if s.tamper.input then s
  else
    match s.resetting with
    | some r => s.tamperInReset r
    | none => s.tamperTaken.finish

/-! ## The commands -/

def execDocumentErase (body : List Byte) (s : State) : Answered := .next (requestFrame 29 (serveDocumentErase body) s)
def execDocumentList (body : List Byte) (s : State) : Answered := .next (requestFrame 30 (serveDocumentList body) s)
def execTamperClear (body : List Byte) (s : State) : Answered := .next (requestFrame 31 (serveTamperClear body) s)
def execTamperEvent (s : State) : Answered := .next s.tamperAsserted

/-- A release of the input changes nothing but the monitor's view of it (R146). -/
def execTamperRelease (s : State) : Answered := .next (s.setTamper { s.tamper with input := false })

end Sys2Proof.Machine
end

