-- ==== Sys2Proof/Machine/Toner.lean ====
section
/-! DEFINITION. Toner accounting of the slots: requests for the line, postings of sheets and the flush expiry
(R98, R109 to R112). -/

namespace Sys2Proof.Machine

/-! ## Requests for the line (R89): a request already present changes nothing -/

def Slot.askIdentify (sl : Slot) : Slot := { sl with requests := { sl.requests with identify := true } }
def Slot.askChallenge (sl : Slot) : Slot := { sl with requests := { sl.requests with challenge := true } }
def Slot.askDebit (sl : Slot) : Slot := { sl with requests := { sl.requests with debit := true } }

/-- Whether a CHALLENGE is in progress for the slot (R98). -/
def CartUnit.challenging (u : CartUnit) (i : Fin 4) : Bool :=
  match u.transaction with
  | some { slot := j, work := .challenge _ _, .. } => j == i
  | _ => false

/-- The verify interval is reached: a CHALLENGE is requested, unless one is in progress, and the count is 0 (R98). -/
def Slot.verifyNow (sl : Slot) (challenging : Bool) : Slot :=
  let sl := { sl with sinceVerify := 0 }
  if challenging then sl else sl.askChallenge

/-- A DEBIT is requested when the uncovered debit is at the write quantum or more (R111). -/
def State.debitAtQuantum (s : State) (i : Fin 4) : State :=
  if Config.writeQuantum ≤ s.cart.uncovered i then s.changeSlot i Slot.askDebit else s

/-- At the end of a DEBIT and at the settling of an unconfirmed debit: the quantum, or any uncovered debit while the flush
timer is stopped (R111, R112). -/
def State.debitIfDue (s : State) (i : Fin 4) : State :=
  if Config.writeQuantum ≤ s.cart.uncovered i ∨ ((s.slot i).flush = none ∧ 0 < s.cart.uncovered i) then
    s.changeSlot i Slot.askDebit
  else s

/-! ## Postings (R70, R109, R110) -/

/-- One plane of a posting (R70). -/
structure Posting where
  kilodots : Nat
  sides : Nat
  attribution : Option Attribution
  deriving DecidableEq, Repr

/-- Whether the slot keeps postings (R109). -/
def SlotState.keeps : SlotState → Bool
  | .identifying => true
  | .genuine => true
  | .suspect => true
  | .silent => true
  | .empty => false
  | .rejected => false

/-- What a kept posting does to the counts of a slot, and its flush timer restarts (R98, R109, R112). -/
def Slot.keep (sl : Slot) (p : Posting) : Slot :=
  { sl with
    pending := satAdd Config.debitTop sl.pending p.kilodots
    sinceInsertion := satAdd Config.insertionTop sl.sinceInsertion 1
    attribution := if p.attribution.isSome then p.attribution else sl.attribution
    sinceVerify := if sl.state = .genuine then sl.sinceVerify + 1 else sl.sinceVerify
    flush := some 0 }

/-- The verify interval after a kept posting (R98). -/
def Slot.verifyIfDue (sl : Slot) (interval : Nat) (challenging : Bool) : Slot :=
  if sl.state = .genuine ∧ interval ≤ sl.sinceVerify then sl.verifyNow challenging else sl

/-- One plane taken by its slot (R109, R110). A plane without dots is left out of the posting (R70). -/
def State.postPlane (s : State) (i : Fin 4) (p : Posting) : State :=
  if p.kilodots = 0 then s
  else if (s.slot i).state.keeps then
    (s.changeSlot i fun sl => (sl.keep p).verifyIfDue s.settings.verifyInterval (s.cart.challenging i)).debitAtQuantum i
  else s.addMeters { untrackedPlaneSides := p.sides }

/-- The dots of one plane on the sides of a sheet. -/
def SheetRecord.planeDots (r : SheetRecord) (plane : Dots → Nat) : List Nat :=
  plane r.side1 :: (r.side2.map plane).toList

/-- The posting of one plane (R70). -/
def SheetRecord.posting (r : SheetRecord) (plane : Dots → Nat) (a : Option Attribution) : Posting :=
  { kilodots := (r.planeDots plane).sum, sides := (r.planeDots plane).countP fun d => decide (0 < d), attribution := a }

/-- A sheet posted to the cartridge unit (R70). -/
def State.postSheet (s : State) (r : SheetRecord) (a : Option Attribution) : State :=
  (((s.postPlane 0 (r.posting Dots.k a)).postPlane 1 (r.posting Dots.c a)).postPlane 2 (r.posting Dots.m a)).postPlane 3
    (r.posting Dots.y a)

/-! ## The flush expiry (R112) -/

/-- The flush timer reaches 2 s: it stops, and an uncovered debit above 0 requests a DEBIT (R112). -/
def State.flushExpired (s : State) (i : Fin 4) : State :=
  if (s.slot i).flush.isSome then
    let s := s.changeSlot i fun sl => { sl with flush := none }
    if 0 < s.cart.uncovered i then s.changeSlot i Slot.askDebit else s
  else s

def execFlushExpiry (slot : Fin 4) (s : State) : Answered := .next (outsideReset s fun s => s.flushExpired slot)

end Sys2Proof.Machine
end

