-- ==== Sys2Proof/Machine/EngineLine.lean ====
section
/-! DEFINITION. The engine line and the sheet queue (R60 to R72), and METER READ (R84). -/

namespace Sys2Proof.Machine

/-! ## Arrivals (R61 to R65) -/

/-- A stored arrival: the entry joins at the tail, and a count of 24 asserts ENGINE HOLD (R63, R65). -/
def SheetQueue.store (q : SheetQueue) (e : QueueEntry) : SheetQueue :=
  { q with entries := q.entries ++ [e], hold := q.hold || decide (q.entries.length + 1 = Config.holdAssert) }

/-- A record lost at a count of 32 (R64). -/
def State.loseRecord (s : State) : State :=
  let s := s.addMeters { lostRecords := 1 }
  s.post (.queueOverrun 1 s.meters.lostRecords)

/-- The end of a record's arrival (R61, R63, R64). -/
def State.recordArrived (s : State) (e : QueueEntry) : State :=
  if s.queue.entries.length < Config.queueSize then s.setQueue (s.queue.store e) else s.loseRecord

/-- The entry that a record's bytes become, where they end a record (R61). -/
def arrivalEntry (line : List LineByte) : Option QueueEntry :=
  match receiveRecord line with
  | .hunting => none
  | .partly => none
  | .broken => some .damaged
  | .complete covered good => some (if good then recordEntry (covered.drop 1) else .damaged)

/-- A gap of more than 1 ms inside a record breaks it (R60, R61). -/
def gapEntry (line : List LineByte) : Option QueueEntry :=
  match receiveRecord line with
  | .partly => some .damaged
  | .hunting => none
  | .broken => none
  | .complete _ _ => none

/-- A record of which the line tells nothing changes nothing (log 6). -/
def State.recordMaybe (s : State) (e : Option QueueEntry) : State :=
  match e with
  | none => s
  | some e => s.recordArrived e

/-! ## The head (R66 to R71) -/

/-- The entry leaves the queue at the completion of its take, and a count of 8 releases ENGINE HOLD (R65, R66). -/
def SheetQueue.taken (q : SheetQueue) : SheetQueue :=
  { entries := q.entries.tail, taking := false,
    hold := q.hold && decide (q.entries.tail.length ≠ Config.holdRelease) }

def State.endTake (s : State) : State := s.setQueue s.queue.taken

/-- The job a sheet is settled against, none when it is unattributed (R68). -/
def State.sheetJob (s : State) (tag : Nat) : Option Job :=
  if tag = 0 then none
  else (s.job tag).filter fun j => j.kind != .scan && decide (j.sheets < Config.countingLimit)

/-- The work at the head for a SHEET entry: settlement, then the posting (R68 to R70). -/
def State.takeSheet (s : State) (r : SheetRecord) : State :=
  match s.sheetJob r.tag with
  | none => (s.settleUnattributed (s.priceSheet r)).postSheet r none
  | some j => (s.settleSheet j (s.priceSheet r)).postSheet r (some { job := j.number, user := s.userNumber j.owner })

/-- A JOB_END on the job its tag names (R52). -/
def State.takeJobEnd (s : State) (tag : Nat) : State :=
  if tag = 0 then s
  else
    match s.job tag with
    | none => s
    | some j =>
      if j.kind = .scan then s
      else if j.state = .closing then s.removeJob j .complete
      else s.changeJob tag fun j => { j with engineEnded := true }

/-- The head entry, while its take is in progress. -/
def SheetQueue.head (q : SheetQueue) : Option QueueEntry := if q.taking then q.entries.head? else none

def State.sheetTaken (s : State) : State :=
  match s.queue.head with
  | some (.sheet r) => (s.takeSheet r).endTake
  | _ => s

def State.jobEndTaken (s : State) : State :=
  match s.queue.head with
  | some (.jobEnd tag) => (s.takeJobEnd tag).endTake
  | _ => s

def State.damagedTaken (s : State) : State :=
  match s.queue.head with
  | some .damaged => (s.addMeters { damagedRecords := 1 }).endTake
  | _ => s

/-! ## QUEUE READ and METER READ -/

def QueueEntry.isSheet : QueueEntry → Bool
  | .sheet _ => true
  | .jobEnd _ => false
  | .damaged => false

def QueueEntry.isJobEnd : QueueEntry → Bool
  | .jobEnd _ => true
  | .sheet _ => false
  | .damaged => false

/-- The job tag of an entry that has one. -/
def QueueEntry.tag : QueueEntry → Option Nat
  | .sheet r => some r.tag
  | .jobEnd t => some t
  | .damaged => none

/-- The QUEUE READ reply (R72). -/
def State.queueReply (s : State) : List Byte :=
  let q := s.queue
  be 1 q.entries.length ++ flag q.hold ++ be 1 (q.entries.countP QueueEntry.isSheet)
    ++ be 1 (q.entries.countP QueueEntry.isJobEnd) ++ be 1 (q.entries.countP fun e => e == .damaged) ++ flag q.taking
    ++ optEnum (q.entries.head?.map QueueEntry.code) ++ optNum 2 (q.entries.head?.bind QueueEntry.tag)
    ++ s.meters.lostRecords.bytes ++ s.meters.damagedRecords.bytes

def serveQueueRead (body : List Byte) (s : State) : Served :=
  withParsed (parseEmpty body) s fun _ => okWith s s.queueReply

/-- The METER READ reply (R84). -/
def State.metersReply (s : State) : List Byte :=
  s.meters.toList.flatMap Meter.bytes ++ be 1 (s.meters.toList.countP fun m => m.full)

def serveMeterRead (body : List Byte) (s : State) : Served :=
  withParsed (parseEmpty body) s fun _ => okWith s s.metersReply

/-! ## The commands -/

def execEngineRecordArrival (line : List LineByte) (s : State) : Answered :=
  .next (outsideReset s fun s => s.recordMaybe (arrivalEntry line))

def execEngineGapExpiry (line : List LineByte) (s : State) : Answered :=
  .next (outsideReset s fun s => s.recordMaybe (gapEntry line))

def execTakeSheet (s : State) : Answered := .next (outsideReset s State.sheetTaken)
def execTakeJobEnd (s : State) : Answered := .next (outsideReset s State.jobEndTaken)
def execTakeDamaged (s : State) : Answered := .next (outsideReset s State.damagedTaken)
def execQueueRead (body : List Byte) (s : State) : Answered := .next (requestFrame 17 (serveQueueRead body) s)
def execMeterRead (body : List Byte) (s : State) : Answered := .next (requestFrame 18 (serveMeterRead body) s)

end Sys2Proof.Machine
end

