-- ==== Sys2Proof/Machine/PoolFills.lean ====
section
/-! DEFINITION. The completions of the fill engine (R130, R131, R133) and POOL READ (R134). -/

namespace Sys2Proof.Machine

/-! ## Completions -/

/-- The fill engine is idle. -/
def State.endFill (s : State) : State := s.setPool { s.pool with fill := none }

/-- The fill of a half completes: its blocks are zero, and unless its fill was given up it is EMPTY (R127, R131). -/
def State.halfFilled (s : State) : State :=
  match s.pool.fill with
  | some (.half i b blocks live) =>
    let s := (s.setMem (s.pool.mem.zeroBlocks blocks)).endFill
    if live then s.changeStream i fun st => st.setHalf b {} else s
  | _ => s

/-- WIPE_DONE with the number of FREE blocks as they stand (R130, R133). -/
def State.postWipeDone (s : State) (cause : WipeCause) : State := s.post (.wipeDone cause (freeCount s.pool s.streams))

/-- The fill of the oldest range completes (R130). -/
def State.rangeWiped (s : State) : State :=
  match s.pool.fill, s.pool.wipe with
  | some .range, r :: rest =>
    let s := (s.setPool { s.pool with mem := s.pool.mem.zeroBlocks r, wipe := rest, fill := none })
    if rest.isEmpty then s.postWipeDone .list else s
  | _, _ => s

/-- The full fill completes: every block is zero and FREE (R133). -/
def State.fullFilled (s : State) : State :=
  match s.pool.fill with
  | some .full => (s.setPool { s.pool with mem := [], fill := none, underReset := false }).postWipeDone .reset
  | _ => s

def execHaltFillHalfComplete (s : State) : Answered := .next (outsideReset s State.halfFilled)
def execWipeRangeComplete (s : State) : Answered := .next (outsideReset s State.rangeWiped)
def execFullFillComplete (s : State) : Answered := .next (outsideReset s State.fullFilled)

/-! ## POOL READ (R134) -/

/-- One stream's part of the reply (log 20). -/
def Stream.poolBytes (st : Stream) : List Byte :=
  flag st.window.isSome ++ optNum 2 (st.window.map (·.first)) ++ optNum 1 (st.window.map (·.perHalf))
    ++ optNum 1 (st.window.map (·.halves))
    ++ optField 2 (fun _ => enumByte st.half0.state.code ++ enumByte st.half1.state.code) st.window
    ++ optField 1 (fun _ => flag st.haltFilling) st.window

/-- What the fill engine is clearing: nothing, the full fill, a half or a range. -/
def fillCode : Option FillItem → Nat
  | none => 0
  | some .full => 1
  | some (.half _ _ _ _) => 2
  | some .range => 3

/-- The stream and the number of the half being cleared. -/
def fillStream : Option FillItem → Option Nat
  | some (.half i _ _ _) => some i.val
  | _ => none

def fillHalf : Option FillItem → Option Nat
  | some (.half _ b _ _) => some b.toNat
  | _ => none

def BlockRange.bytes (r : BlockRange) : List Byte := be 2 r.first ++ be 1 r.count

/-- The first block and the length of the longest run of FREE blocks (log 32). -/
def runBytes (run : Nat × Nat) : List Byte :=
  be 2 (if run.2 = 0 then Config.emptyRunFirst.toNat else run.1) ++ be 2 run.2

/-- The POOL READ reply (R134). -/
def State.poolReply (s : State) : List Byte :=
  flag (s.pool.fill == some .full) ++ s.streams.toList.flatMap Stream.poolBytes ++ listField BlockRange.bytes s.pool.wipe
    ++ be 1 (boundWindows s.streams) ++ be 1 (fillCode s.pool.fill) ++ optNum 1 (fillStream s.pool.fill)
    ++ optNum 1 (fillHalf s.pool.fill) ++ be 2 (freeCount s.pool s.streams)
    ++ runBytes (longestRun (freeMap s.pool s.streams) 0 0 0 0 0)

def servePoolRead (body : List Byte) (s : State) : Served :=
  withParsed (parseEmpty body) s fun _ => okWith s s.poolReply

def execPoolRead (body : List Byte) (s : State) : Answered := .next (requestFrame 22 (servePoolRead body) s)

end Sys2Proof.Machine
end

