-- ==== Sys2Proof/Machine/RateRequests.lean ====
section
/-! DEFINITION. The requests of the rate and area tables (R21 to R24, R32): RATE SET, AREA SET, RATE READ, RATE QUOTE. -/

namespace Sys2Proof.Machine

/-- The ranges of R18 and R19. -/
def maxRate : Nat := 9999
def maxStep : Nat := 999
def maxArea : Nat := 1000000

/-- The print rates with one entry written whole (R21). -/
def Rates.setEntry (r : Rates) (n : Nat) (e : PrintRate) : Rates := { r with print := r.print.set! n e }

/-- The values a RATE SET of a print entry takes (R21). -/
def RateSetRequest.entryTaken (r : RateSetRequest) : PrintRate := { base := min r.first maxRate, step := min r.step maxStep }

/-- RATE SET PRINT after authority (R21). -/
def State.setPrintRate (s : State) (n : Nat) (r : RateSetRequest) : Served :=
  if n < 32 then
    let before := s.rates.entry n
    let taken := r.entryTaken
    okWith (s.setRates (s.rates.setEntry n taken))
      (be 1 0 ++ be 1 n ++ be 2 before.base ++ be 2 before.step ++ be 2 taken.base ++ be 2 taken.step
        ++ flag (taken.base != r.first) ++ flag (taken.step != r.step))
  else refuse s .range

/-- RATE SET SCAN after authority (R21). -/
def State.setScanRate (s : State) (size : Fin 8) (r : RateSetRequest) : Served :=
  let taken := min r.first maxRate
  okWith (s.setRates { s.rates with scan := s.rates.scan.set size.val taken })
    (be 1 1 ++ be 1 size.val ++ be 2 (s.rates.scanRate size.val) ++ be 2 taken ++ flag (taken != r.first))

def serveRateSet (body : List Byte) (s : State) : Served :=
  withParsed (parseRateSet body) s fun r => asAdmin s fun s =>
    match r.target with
    | .print n => s.setPrintRate n r
    | .scan size => s.setScanRate size r

/-- The area an AREA SET takes (R22). -/
def areaTaken (value : Nat) : Nat := max 1 (min value maxArea)

def serveAreaSet (body : List Byte) (s : State) : Served :=
  withParsed (parseAreaSet body) s fun r => asAdmin s fun s =>
    okWith (s.setRates { s.rates with area := s.rates.area.set r.size.val (areaTaken r.value) })
      (be 1 r.size.val ++ be 4 (s.rates.areaOf r.size.val) ++ be 4 (areaTaken r.value)
        ++ flag (areaTaken r.value != r.value))

def PrintRate.bytes (e : PrintRate) : List Byte := be 2 e.base ++ be 2 e.step

/-- The RATE READ reply (R23). -/
def State.ratesReply (s : State) : List Byte :=
  s.rates.print.toList.flatMap PrintRate.bytes ++ s.rates.scan.toList.flatMap (be 2) ++ s.rates.area.toList.flatMap (be 4)
    ++ be 2 s.settings.freeCoverage

def serveRateRead (body : List Byte) (s : State) : Served :=
  withParsed (parseEmpty body) s fun _ => okWith s s.ratesReply

/-- One side of a charge result (R29). -/
def SideCharge.bytes (c : SideCharge) : List Byte :=
  enumByte c.position.code ++ enumByte c.colourClass.code ++ be 2 c.covK ++ be 2 c.covC ++ be 2 c.covM ++ be 2 c.covY
    ++ be 2 c.total ++ be 2 c.excess ++ be 1 c.entry ++ be 2 c.base ++ be 2 c.step ++ be 2 c.charge ++ flag c.ceiling

/-- The charge result of a sheet (R29). -/
def ChargeResult.bytes (c : ChargeResult) : List Byte := be 4 c.charge ++ listField SideCharge.bytes c.sides

def serveRateQuote (body : List Byte) (s : State) : Served :=
  withParsed (parseRateQuote body) s fun sheet => okWith s (s.priceSheet sheet).bytes

/-! ## The commands -/

def execRateSet (body : List Byte) (s : State) : Answered := .next (requestFrame 10 (serveRateSet body) s)
def execAreaSet (body : List Byte) (s : State) : Answered := .next (requestFrame 11 (serveAreaSet body) s)
def execRateRead (body : List Byte) (s : State) : Answered := .next (requestFrame 12 (serveRateRead body) s)
def execRateQuote (body : List Byte) (s : State) : Answered := .next (requestFrame 13 (serveRateQuote body) s)

end Sys2Proof.Machine
end

