-- ==== Sys2Proof/Machine/Cartridges.lean ====
section
/-! DEFINITION. Cartridge verification (R86 to R108): presence, the answers of the tags, the slot states, rejection, the
recheck timer, and SLOT READ, SNAPSHOT READ and REJECT REMOVE. -/

namespace Sys2Proof.Machine

/-! ## CARTRIDGE_STATE (R108) -/

/-- What one event has done to a slot so far: the state before it, the cause to report, the debit discarded. -/
structure CartNews where
  before : SlotState
  cause : Option CartCause := none
  discarded : Nat := 0
  deriving DecidableEq, Repr

/-- CARTRIDGE_STATE with the slot as it stands, where there is a cause to report (R108). -/
def State.tellCart (s : State) (i : Fin 4) (n : CartNews) : State :=
  match n.cause with
  | none => s
  | some cause =>
    s.post (.cartridgeState
      { slot := i, before := n.before, now := (s.slot i).state, serial := (s.slot i).serial, fails := (s.slot i).fails,
        failLimit := s.settings.failLimit, cause := cause, discarded := n.discarded })

/-- CARTRIDGE_STATE of several slots, in the order given (R108). -/
def State.tellCarts (s : State) (news : List (Fin 4 × CartNews)) : State := news.foldl (fun s x => s.tellCart x.1 x.2) s

/-- A level recomputed where the event may recompute it again: a change is marked, and told at the end of the event even if
the level has returned by then (R116, R117; log 16). -/
def State.noteLevel (s : State) (i : Fin 4) : State :=
  if (s.slot i).levelNow s.settings.lowMark = (s.slot i).level then s else s.setLevelMoved i true

/-! ## Presence (R96) -/

/-- A slot without its pending debit and the DEBIT work on it (R114). -/
def Slot.discardDebit (sl : Slot) : Slot :=
  { sl with pending := 0, unconfirmed := none, flush := none, requests := { sl.requests with debit := false } }

/-- The slot at its entry to EMPTY (R96). -/
def Slot.emptied (sl : Slot) : Slot :=
  { sl.discardDebit with
    present := false, state := .empty, serial := none, ratedYield := none, tagRemaining := none, requests := {},
    recheck := none, remembered := none }

/-- The slot after presence has risen on it while EMPTY (R96). -/
def Slot.inserted (sl : Slot) : Slot :=
  { sl.askIdentify with
    present := true, state := .identifying, serial := none, fails := 0, unanswered := 0, sinceInsertion := 0,
    attribution := none }

/-- The transaction in progress for a slot ends at once (R93). -/
def CartUnit.dropTransaction (u : CartUnit) (i : Fin 4) : CartUnit :=
  { u with transaction := u.transaction.filter fun t => t.slot != i }

/-- Presence rises on a slot (R96). -/
def State.cartInserted (s : State) (i : Fin 4) : State :=
  if (s.slot i).present then s
  else (s.changeSlot i Slot.inserted).tellCart i { before := (s.slot i).state, cause := some .inserted }

/-- Presence falls (R96). -/
def State.cartRemoved (s : State) (i : Fin 4) : State :=
  if (s.slot i).present then
    let sl := s.slot i
    let s := s.setCart (s.cart.dropTransaction i)
    (s.setSlot i sl.emptied).tellCart i { before := sl.state, cause := some .removed, discarded := sl.pending }
  else s

/-- In a supply reset a change of presence is only noted, for its end (R88; log 24). -/
def State.notePresence (s : State) (i : Fin 4) (b : Bool) : State := s.changeSlot i fun sl => { sl with present := b }

/-! ## Rejection (R102 to R106) -/

/-- The slot at its entry to REJECTED (R103 step 3). -/
def Slot.rejected (sl : Slot) : Slot :=
  { sl.discardDebit with state := .rejected, requests := {}, recheck := none, remembered := none }

/-- The listed path (R103). -/
def State.rejectListed (s : State) (i : Fin 4) (n : CartNews) : State :=
  let sl := s.slot i
  (s.setSlot i sl.rejected).tellCart i { n with cause := some .listed, discarded := n.discarded + sl.pending }

/-- A serial joins the reject list, which drops its oldest entry when it is full (R104). -/
def joinRejectList (list : List Serial) (serial : Serial) : List Serial :=
  if list.contains serial then list
  else if list.length < Config.rejectSize then list ++ [serial] else list.tail ++ [serial]

/-- The fault snapshot of a slot (R106). TOTAL SHEETS is the meter as it stands, 0 within a FACTORY CLEAR (log 41). -/
def State.snapshot (s : State) (i : Fin 4) (serial : Serial) : Snapshot :=
  let sl := s.slot i
  { slot := i, serial := serial, fails := sl.fails, failLimit := s.settings.failLimit, sinceInsertion := sl.sinceInsertion,
    view := sl.view.getD 0, totalSheets := s.meters.totalSheets, attribution := sl.attribution }

/-- A fifth snapshot replaces the oldest (R106). -/
def keepSnapshot (list : List Snapshot) (x : Snapshot) : List Snapshot :=
  if list.length < Config.snapshotSize then list ++ [x] else list.tail ++ [x]

/-- The other slots that hold the serial, in a state other than EMPTY and REJECTED, in increasing number (R103 step 4). -/
def State.twins (s : State) (i : Fin 4) (serial : Serial) : List (Fin 4) :=
  fourIndices.filter fun j => j != i && (s.slot j).serial == some serial && (s.slot j).state.keeps

/-- Steps 1 to 4 of the fail count path without the notices (R103). -/
def State.rejectFalse (s : State) (i : Fin 4) (serial : Serial) : State :=
  let t := s.setCart { s.cart with
    snapshots := keepSnapshot s.cart.snapshots (s.snapshot i serial)
    rejectList := joinRejectList s.cart.rejectList serial }
  (i :: s.twins i serial).foldl (fun t j => t.changeSlot j Slot.rejected) (t.addMeters { cartridgesRejected := 1 })

/-- What the fail count path has to tell: of the slot first, then of the others in increasing number (R103, R108). -/
def State.rejectNews (s : State) (i : Fin 4) (serial : Serial) (n : CartNews) : List (Fin 4 × CartNews) :=
  (i, { n with cause := some .limit, discarded := n.discarded + (s.slot i).pending }) ::
    (s.twins i serial).map fun j =>
      (j, { before := (s.slot j).state, cause := some .listed, discarded := (s.slot j).pending })

/-- The fail count path for the slot an event acts on (R103). -/
def State.rejectByFails (s : State) (i : Fin 4) (n : CartNews) : State :=
  match (s.slot i).serial with
  | none => s
  | some serial => (s.rejectFalse i serial).tellCarts (s.rejectNews i serial n)

/-- Whether a slot is examined when the fail limit is lowered, and meets the new limit (R102). -/
def Slot.meetsLimit (sl : Slot) (limit : Nat) : Bool :=
  decide (limit ≤ sl.fails) &&
    match sl.state with
    | .suspect => true
    | .identifying => sl.serial.isSome
    | .silent => sl.remembered == some .suspect || (sl.remembered == some .identifying && sl.serial.isSome)
    | _ => false

/-- One slot examined under the fail limit in force, with what is to tell so far (R102). -/
def State.examineSlot (x : State × List (Fin 4 × CartNews)) (i : Fin 4) : State × List (Fin 4 × CartNews) :=
  let sl := x.1.slot i
  if sl.meetsLimit x.1.settings.failLimit then
    match sl.serial with
    | none => x
    | some serial => (x.1.rejectFalse i serial, x.2 ++ x.1.rejectNews i serial { before := sl.state })
  else x

/-- The slots examined in increasing number (R102), and the slots rejected told in increasing number (R108). -/
def State.examineSlots (s : State) : State :=
  let x := fourIndices.foldl State.examineSlot (s, [])
  x.1.tellCarts (fourIndices.flatMap fun i => x.2.filter fun y => y.1 == i)

/-! ## The outcome of a challenge (R97) -/

/-- A new fail count, which the retained record takes too (R87). -/
def Slot.withFails (sl : Slot) (n : Nat) : Slot := { sl with fails := n, retainedFails := n }

/-- Entry to GENUINE (R97). -/
def Slot.enterGenuine (sl : Slot) : Slot := { sl with state := .genuine, sinceVerify := 0, recheck := none }

/-- Entry to SUSPECT starts the recheck timer; a slot that stays SUSPECT leaves it running (R97). -/
def Slot.enterSuspect (sl : Slot) : Slot := if sl.state = .suspect then sl else { sl with state := .suspect, recheck := some 0 }

/-- A pass in IDENTIFYING or SUSPECT lowers the fail count by 1, and 0 makes the slot GENUINE (R97). -/
def Slot.passed (sl : Slot) : Slot :=
  if sl.fails ≤ 1 then (sl.withFails 0).enterGenuine else (sl.withFails (sl.fails - 1)).enterSuspect

/-- A pass (R97). In GENUINE it changes nothing. -/
def State.passChallenge (s : State) (i : Fin 4) : State :=
  let sl := s.slot i
  match sl.state with
  | .identifying | .suspect => (s.setSlot i sl.passed).tellCart i { before := sl.state, cause := some .pass }
  | _ => s

/-- The fail count after a fail (R97). -/
def Slot.failsAfter (sl : Slot) : Nat := if sl.state = .genuine then 1 else sl.fails + 1

/-- A fail, or what is treated as one, with the cause it has short of the limit (R97, R101). -/
def State.failChallenge (s : State) (i : Fin 4) (n : CartNews) (cause : CartCause) : State :=
  let sl := s.slot i
  let s := s.setSlot i (sl.withFails sl.failsAfter)
  if s.settings.failLimit ≤ sl.failsAfter then s.rejectByFails i n
  else (s.changeSlot i Slot.enterSuspect).tellCart i { n with cause := some cause }

/-! ## IDENTIFY answers (R94, R100, R101) -/

/-- The fields of an IDENTIFY answer. -/
structure Identity where
  serial : Serial
  ratedYield : Nat
  remaining : Nat
  deriving DecidableEq, Repr

def identityOf (fields : List Byte) : Identity :=
  { serial := BitVec.ofNat 64 (num (fields.take 8)), ratedYield := num ((fields.drop 8).take 4),
    remaining := num (fields.drop 12) }

/-- R94 step 2, with R87. -/
def Slot.identified (sl : Slot) (x : Identity) : Slot :=
  let fails := if sl.retainedSerial = some x.serial then sl.retainedFails else 0
  { sl with serial := some x.serial, ratedYield := some x.ratedYield, tagRemaining := some x.remaining, fails := fails,
            retainedSerial := some x.serial, retainedFails := fails }

/-- The cause an identification reports: IDENTIFIED when it restores a fail count, else the one it came with (R108; log 30). -/
def identifyCause (before after : Nat) (present : Option CartCause) : Option CartCause :=
  if after ≠ before ∧ after ≠ 0 then some .identified else present

/-- Steps 3 and 4 of R94, on the slot as step 2 has recorded it. -/
def State.afterRecord (s : State) (i : Fin 4) (x : Identity) (n : CartNews) : State :=
  if s.settings.failLimit ≤ (s.slot i).fails then s.rejectByFails i n
  else if x.ratedYield = 0 ∨ x.ratedYield < x.remaining then s.failChallenge i n .tagMismatch
  else (s.changeSlot i Slot.askChallenge).tellCart i n

/-- A good IDENTIFY answer for a slot in IDENTIFYING (R94). -/
def State.identifyNew (s : State) (i : Fin 4) (x : Identity) (n : CartNews) : State :=
  if s.cart.rejectList.contains x.serial then s.rejectListed i n
  else
    let sl := s.slot i
    let after := sl.identified x
    ((s.setSlot i after).noteLevel i).afterRecord i x { n with cause := identifyCause sl.fails after.fails n.cause }

/-- Step 3 of R100: the slot as it holds a new cartridge. -/
def Slot.newCartridge (sl : Slot) : Slot :=
  { sl.discardDebit with remembered := none, attribution := none, sinceInsertion := 0, state := .identifying, recheck := none }

/-- A different serial, or none held: the slot holds a new cartridge, and the answer is taken by R94 (R100 step 3, R101). -/
def State.identifyOther (s : State) (i : Fin 4) (x : Identity) : State :=
  let sl := s.slot i
  ((s.setSlot i sl.newCartridge).noteLevel i).identifyNew i x
    { before := sl.state, cause := some .newSerial, discarded := sl.pending }

/-- A DEBIT of `m` was written: tag remaining takes the new value and the pending debit falls (R113). -/
def Slot.debited (sl : Slot) (m t : Nat) : Slot := { sl with tagRemaining := some t, pending := sl.pending - m }

/-- The remaining that agrees with a DEBIT of `m` (R101). -/
def Slot.remainingAfter (sl : Slot) (m : Nat) : Nat := sl.tagRemaining.getD 0 - m

/-- The remaining of an IDENTIFY answer with the slot's serial checked, the unconfirmed debit settled (R101). A reported 0 of
a slot that holds 0 is taken by the first row of R101's table (log 40). -/
def State.checkRemaining (s : State) (i : Fin 4) (t : Nat) (n : CartNews) : State :=
  let sl := s.slot i
  let taken := { sl with tagRemaining := some t, unconfirmed := none }
  match sl.unconfirmed with
  | none =>
    if sl.tagRemaining = some t then s.tellCart i n else ((s.setSlot i taken).noteLevel i).failChallenge i n .tagMismatch
  | some m =>
    if sl.tagRemaining = some t then ((s.setSlot i { sl with unconfirmed := none }).debitIfDue i).tellCart i n
    else if t = sl.remainingAfter m then
      ((s.setSlot i { sl.debited m t with unconfirmed := none }).debitIfDue i).tellCart i n
    else (((s.setSlot i taken).noteLevel i).debitIfDue i).failChallenge i n .tagMismatch

/-- The slot as it returns from SILENT with its serial (R100 step 2; log 28). A return to GENUINE is an entry to GENUINE,
which sets sheets since verify to 0 (R98). -/
def Slot.returned (sl : Slot) : Slot :=
  let back := sl.remembered.getD .identifying
  { sl.askChallenge with state := back, remembered := none, recheck := if back = .suspect then some 0 else none,
                         sinceVerify := if back = .genuine then 0 else sl.sinceVerify }

/-- A good IDENTIFY answer for a slot in SILENT (R100). -/
def State.identifySilent (s : State) (i : Fin 4) (x : Identity) : State :=
  let sl := s.slot i
  if s.cart.rejectList.contains x.serial then s.rejectListed i { before := sl.state }
  else if sl.serial = some x.serial then
    (s.setSlot i sl.returned).checkRemaining i x.remaining { before := sl.state, cause := some .answered }
  else s.identifyOther i x

/-- A good IDENTIFY answer for a slot in GENUINE or SUSPECT (R94, R101; log 31). -/
def State.identifyTrusted (s : State) (i : Fin 4) (x : Identity) : State :=
  if (s.slot i).serial = some x.serial then s.checkRemaining i x.remaining { before := (s.slot i).state }
  else s.identifyOther i x

def State.identifyTaken (s : State) (i : Fin 4) (x : Identity) : State :=
  match (s.slot i).state with
  | .identifying => s.identifyNew i x { before := .identifying }
  | .genuine | .suspect => s.identifyTrusted i x
  | .silent => s.identifySilent i x
  | .empty | .rejected => s

/-! ## CHALLENGE and DEBIT answers (R95, R113) -/

/-- A good CHALLENGE answer is a pass when it equals the expected response, else a fail (R95). -/
def State.challengeTaken (s : State) (i : Fin 4) (expected : BitVec 64) (fields : List Byte) : State :=
  if BitVec.ofNat 64 (num fields) = expected then s.passChallenge i
  else
    match (s.slot i).state with
    | .identifying | .genuine | .suspect => s.failChallenge i { before := (s.slot i).state } .fail
    | .empty | .silent | .rejected => s

/-- A good DEBIT answer (R101, R113), with the DEBIT it may ask for at its end (R111, R112). -/
def State.debitTaken (s : State) (i : Fin 4) (amount t : Nat) : State :=
  let sl := s.slot i
  if t = sl.remainingAfter amount then (s.setSlot i (sl.debited amount t)).debitIfDue i
  else (((s.setSlot i { sl with tagRemaining := some t }).noteLevel i).debitIfDue i).failChallenge i { before := sl.state } .tagMismatch

/-! ## Unanswered transactions (R92, R101) -/

/-- The unanswered count rises, and the third sends the slot to SILENT (R92). -/
def Slot.missed (sl : Slot) : Slot :=
  let count := min 3 (sl.unanswered + 1)
  let sl' := { sl with unanswered := count }
  if sl.state != .silent && count == 3 then
    { sl' with state := .silent, remembered := some sl.state, recheck := some 0 }
  else sl'

/-- An IDENTIFY request, unless the slot is SILENT (R92). -/
def Slot.askIdentifyUnlessSilent (sl : Slot) : Slot := if sl.state = .silent then sl else sl.askIdentify

/-- The request made again, or the debit held as unconfirmed (R92, R101). -/
def Slot.again (sl : Slot) (w : LineWork) : Slot :=
  match w with
  | .identify => sl.askIdentifyUnlessSilent
  | .challenge _ _ => sl.askChallenge
  | .debit m => { sl.askIdentifyUnlessSilent with unconfirmed := some m }

/-- The DEBIT that the end of a DEBIT transaction may ask for (R111). -/
def State.afterDebit (s : State) (i : Fin 4) (w : LineWork) : State :=
  match w with
  | .debit _ => s.debitIfDue i
  | .identify => s
  | .challenge _ _ => s

/-- A transaction ends with a bad answer or with none (R92). -/
def State.unanswered (s : State) (i : Fin 4) (w : LineWork) : State :=
  let sl := s.slot i
  let after := sl.missed.again w
  ((s.setSlot i after).afterDebit i w).tellCart i
    { before := sl.state, cause := if after.state = sl.state then none else some .unanswered }

/-! ## The end of a transaction (R91, R93) -/

/-- What a transaction does with a good answer's fields, whose number it fixes; `none` is an unanswered end. -/
def State.goodAnswer (s : State) (i : Fin 4) (w : LineWork) (fields : List Byte) : State :=
  let s := s.changeSlot i fun sl => { sl with unanswered := 0 }
  match w with
  | .identify => s.identifyTaken i (identityOf fields)
  | .challenge _ expected => s.challengeTaken i expected fields
  | .debit amount => s.debitTaken i amount (num fields)

/-- How many bytes before the check a tag returns (chapter 11, Cartridge line transactions). -/
def LineWork.answerBytes : LineWork → Nat
  | .identify => 16
  | .challenge _ _ => 8
  | .debit _ => 4

/-- The transaction in progress ends with an outcome, which a slot that is EMPTY or REJECTED ignores (R93). -/
def State.endTransaction (s : State) (outcome : State → Transaction → State) : State :=
  match s.cart.transaction with
  | none => s
  | some t =>
    let s := s.setCart { s.cart with transaction := none }
    if (s.slot t.slot).state.keeps then outcome s t else s

/-- An answer is received within 25 ms: good or bad by its length and its check (R91). -/
def State.tagAnswer (s : State) (answer : List Byte) : State :=
  s.endTransaction fun s t =>
    match answerFields t.work.answerBytes answer with
    | some fields => s.goodAnswer t.slot t.work fields
    | none => s.unanswered t.slot t.work

/-- 25 ms pass without a complete answer (R91). -/
def State.answerTimeout (s : State) : State := s.endTransaction fun s t => s.unanswered t.slot t.work

/-! ## The recheck timer (R99) -/

/-- The recheck timer restarts, and the slot makes its recheck request (R99). -/
def Slot.rechecked (sl : Slot) : Slot :=
  let sl := { sl with recheck := some 0 }
  match sl.state with
  | .suspect => sl.askChallenge
  | .silent => sl.askIdentify
  | _ => sl

def State.recheckExpired (s : State) (i : Fin 4) : State :=
  if (s.slot i).recheck.isSome then s.changeSlot i Slot.rechecked else s

/-! ## SLOT READ, SNAPSHOT READ, REJECT REMOVE -/

/-- The requests a slot holds: bit 0 IDENTIFY, bit 1 CHALLENGE, bit 2 DEBIT (R181). -/
def Requests.code (r : Requests) : Nat := r.identify.toNat + 2 * r.challenge.toNat + 4 * r.debit.toNat

/-- One slot of the SLOT READ reply (R107). -/
def Slot.bytes (sl : Slot) : List Byte :=
  flag sl.present ++ enumByte sl.state.code ++ optEnum (sl.remembered.map SlotState.code)
    ++ optField 8 wordBytes sl.serial ++ optNum 4 sl.ratedYield ++ optNum 4 sl.tagRemaining ++ be 4 sl.pending
    ++ optNum 4 sl.unconfirmed ++ optNum 4 sl.view ++ optEnum (sl.level.map Level.code)
    ++ be 2 sl.sinceVerify ++ be 4 sl.sinceInsertion ++ be 1 sl.fails ++ be 1 sl.unanswered
    ++ be 1 sl.requests.code ++ optNum 4 sl.recheck ++ optField 8 wordBytes sl.retainedSerial ++ be 1 sl.retainedFails

/-- The SLOT READ reply (R107). -/
def State.slotsReply (s : State) : List Byte :=
  s.cart.slots.toList.flatMap Slot.bytes ++ flag s.cart.transaction.isSome
    ++ optNum 1 (s.cart.transaction.map fun t => t.slot.val) ++ optEnum (s.cart.transaction.map fun t => t.work.code)
    ++ be 1 s.cart.lastServed.val ++ be 1 s.settings.failLimit ++ be 2 s.settings.verifyInterval
    ++ be 1 s.settings.recheckPeriod

def serveSlotRead (body : List Byte) (s : State) : Served :=
  withParsed (parseEmpty body) s fun _ => okWith s s.slotsReply

/-- One snapshot of the SNAPSHOT READ reply (R106). -/
def Snapshot.bytes (x : Snapshot) : List Byte :=
  be 1 x.slot.val ++ wordBytes x.serial ++ be 1 x.fails ++ be 1 x.failLimit ++ be 4 x.sinceInsertion ++ be 4 x.view
    ++ x.totalSheets.bytes ++ optNum 2 (x.attribution.map (·.job)) ++ optNum 4 (x.attribution.map (·.user))

/-- The SNAPSHOT READ reply (R106). -/
def State.snapshotsReply (s : State) : List Byte :=
  listField Snapshot.bytes s.cart.snapshots ++ listField wordBytes s.cart.rejectList

def serveSnapshotRead (body : List Byte) (s : State) : Served :=
  withParsed (parseEmpty body) s fun _ => asAdmin s fun s => okWith s s.snapshotsReply

/-- The retained fail count of a removed serial becomes 0 (R105). -/
def Slot.forgive (serial : Serial) (sl : Slot) : Slot :=
  if sl.retainedSerial = some serial then { sl with retainedFails := 0 } else sl

/-- A listed serial is taken off the reject list (R105). -/
def State.unlist (s : State) (serial : Serial) : State :=
  s.setCart { s.cart with
    rejectList := s.cart.rejectList.filter fun x => x != serial
    slots := { a0 := s.cart.slots.a0.forgive serial, a1 := s.cart.slots.a1.forgive serial,
               a2 := s.cart.slots.a2.forgive serial, a3 := s.cart.slots.a3.forgive serial } }

def serveRejectRemove (body : List Byte) (s : State) : Served :=
  withParsed (parseSerial body) s fun serial => asAdmin s fun s =>
    if s.cart.rejectList.contains serial then okWith (s.unlist serial) (flag true) else okWith s (flag false)

/-! ## The commands -/

def execCartInserted (slot : Fin 4) (s : State) : Answered :=
  .next (if s.resetting.isSome then s.notePresence slot true else (s.cartInserted slot).finish)

def execCartRemoved (slot : Fin 4) (s : State) : Answered :=
  .next (if s.resetting.isSome then s.notePresence slot false else (s.cartRemoved slot).finish)

def execCartIdentifyAnswer (answer : List Byte) (s : State) : Answered := .next (outsideReset s fun s => s.tagAnswer answer)
def execCartChallengeAnswer (answer : List Byte) (s : State) : Answered := .next (outsideReset s fun s => s.tagAnswer answer)
def execCartDebitAnswer (answer : List Byte) (s : State) : Answered := .next (outsideReset s fun s => s.tagAnswer answer)
def execCartBadAnswer (answer : List Byte) (s : State) : Answered := .next (outsideReset s fun s => s.tagAnswer answer)
def execCartAnswerTimeout (s : State) : Answered := .next (outsideReset s State.answerTimeout)
def execRecheckExpiry (slot : Fin 4) (s : State) : Answered := .next (outsideReset s fun s => s.recheckExpired slot)
def execSlotRead (body : List Byte) (s : State) : Answered := .next (requestFrame 19 (serveSlotRead body) s)
def execSnapshotRead (body : List Byte) (s : State) : Answered := .next (requestFrame 20 (serveSnapshotRead body) s)
def execRejectRemove (body : List Byte) (s : State) : Answered := .next (requestFrame 21 (serveRejectRemove body) s)

end Sys2Proof.Machine
end

