-- ==== Sys2Proof/Machine/Settings.lean ====
section
/-! DEFINITION. The settings, STATUS READ and FACTORY CLEAR (R176 to R179). -/

namespace Sys2Proof.Machine

/-! ## The settings table (chapter 11, Settings) -/

/-- The value of a setting by its number. -/
def Settings.get (st : Settings) (n : Fin 13) : Nat :=
  match n with
  | 0 => st.caution | 1 => st.stop | 2 => st.hysteresis | 3 => st.sessionIdle | 4 => st.freeCoverage
  | 5 => st.verifyInterval | 6 => st.failLimit | 7 => st.recheckPeriod | 8 => st.lowMark | 9 => st.streamIdle
  | 10 => st.drainLimit | 11 => st.boxPolicy.code | 12 => st.ownerCap

/-- The range of a setting by its number, the stop level's up to the caution level in force. -/
def Settings.range (st : Settings) (n : Fin 13) : Nat × Nat :=
  match n with
  | 0 => (0, 1000000) | 1 => (0, st.caution) | 2 => (0, 100000) | 3 => (10, 900) | 4 => (0, 4000)
  | 5 => (50, 5000) | 6 => (1, 15) | 7 => (1, 60) | 8 => (10, 300) | 9 => (200, 30000)
  | 10 => (10, 600) | 11 => (0, 1) | 12 => (1, 64)

/-- The value a SETTING SET takes: clamped to the setting's range (R176). -/
def Settings.clamp (st : Settings) (n : Fin 13) (v : Nat) : Nat := max (st.range n).1 (min (st.range n).2 v)

/-- A setting written. A caution level below the stop level lowers the stop level to it (R176). -/
def Settings.put (st : Settings) (n : Fin 13) (v : Nat) : Settings :=
  match n with
  | 0 => { st with caution := v, stop := min st.stop v }
  | 1 => { st with stop := v }
  | 2 => { st with hysteresis := v }
  | 3 => { st with sessionIdle := v }
  | 4 => { st with freeCoverage := v }
  | 5 => { st with verifyInterval := v }
  | 6 => { st with failLimit := v }
  | 7 => { st with recheckPeriod := v }
  | 8 => { st with lowMark := v }
  | 9 => { st with streamIdle := v }
  | 10 => { st with drainLimit := v }
  | 11 => { st with boxPolicy := if v = 0 then .keep else .recycle }
  | 12 => { st with ownerCap := v }

/-! ## What a changed setting does in the same event (R176) -/

/-- Whether a running timer has passed a limit in ms. -/
def past (elapsed : Option Nat) (limit : Nat) : Bool := (elapsed.map fun t => decide (limit < t)).getD false

/-- A session past its new limit ends with cause IDLE (R15). -/
def State.sessionPast (s : State) : State :=
  if past (s.session.map (·.idle)) (s.settings.sessionIdle * 1000) then s.endSession .idle else s

/-- A GENUINE slot whose count is at or above the verify interval is challenged (R98). -/
def State.verifyPast (s : State) (i : Fin 4) : State :=
  s.changeSlot i fun sl => sl.verifyIfDue s.settings.verifyInterval (s.cart.challenging i)

/-- A recheck timer past the recheck period expires (R99). -/
def State.recheckPast (s : State) (i : Fin 4) : State :=
  if past (s.slot i).recheck (s.settings.recheckPeriod * 1000) then s.recheckExpired i else s

/-- A stream past the stream idle limit halts with cause IDLE (R160). -/
def State.streamPast (s : State) (i : Fin 4) : State :=
  if past (s.stream i).idle s.settings.streamIdle then s.halt i .idle else s

/-- The CLOSING jobs past the drain limit are removed UNSETTLED, in increasing job number (R53). -/
def State.drainsPast (s : State) : State :=
  ((s.jobList.filter fun j => past j.drain (s.settings.drainLimit * 1000)).map (·.number)).foldl State.expireDrain s

/-- The rule of the settings table acts with the new value (R176). -/
def State.settingActs (s : State) (n : Fin 13) (lowered : Bool) : State :=
  match n with
  | 0 | 1 | 2 => s.reevaluateAll
  | 3 => if lowered then s.sessionPast else s
  | 5 => if lowered then fourIndices.foldl State.verifyPast s else s
  | 6 => if lowered then s.examineSlots else s
  | 7 => if lowered then fourIndices.foldl State.recheckPast s else s
  | 9 => if lowered then fourIndices.foldl State.streamPast s else s
  | 10 => if lowered then s.drainsPast else s
  | _ => s

/-- A setting written and applied (R176). A value equal to the one in force changes nothing. -/
def State.changeSetting (s : State) (n : Fin 13) (v : Nat) : State :=
  if v = s.settings.get n then s
  else (s.setSettings (s.settings.put n v)).settingActs n (decide (v < s.settings.get n))

/-- The SETTING SET reply (chapter 11). -/
def State.settingReply (s t : State) (r : SettingRequest) : List Byte :=
  let taken := s.settings.clamp r.number r.value
  be 1 r.number.val ++ be 4 (s.settings.get r.number) ++ be 4 taken ++ flag (taken != r.value) ++ be 4 t.settings.stop

/-- SETTING SET: the restart of the session idle timer is made last (R176). -/
def serveSettingSet (body : List Byte) (s : State) : Served :=
  withParsed (parseSettingSet body) s fun r =>
    if s.isAdmin then
      let t := (s.changeSetting r.number (s.settings.clamp r.number r.value)).touchSession
      okWith t (s.settingReply t r)
    else refuse s .notPermitted

/-- The SETTING READ reply: the thirteen settings in number order (R177). -/
def Settings.bytes (st : Settings) : List Byte :=
  be 4 st.caution ++ be 4 st.stop ++ be 4 st.hysteresis ++ be 2 st.sessionIdle ++ be 2 st.freeCoverage
    ++ be 2 st.verifyInterval ++ be 1 st.failLimit ++ be 1 st.recheckPeriod ++ be 2 st.lowMark ++ be 2 st.streamIdle
    ++ be 2 st.drainLimit ++ enumByte st.boxPolicy.code ++ be 1 st.ownerCap

def serveSettingRead (body : List Byte) (s : State) : Served :=
  withParsed (parseEmpty body) s fun _ => okWith s s.settings.bytes

/-! ## STATUS READ (R178) -/

/-- The account of the OPEN session. -/
def State.sessionAccount (s : State) : Option Account := s.session.bind fun se => s.account se.position

/-- The STATUS READ reply (R178). -/
def State.statusReply (s : State) : List Byte :=
  flag s.session.isSome ++ optNum 4 (s.sessionAccount.map (·.userNumber)) ++ optEnum (s.sessionAccount.map fun a => a.role.code)
    ++ optNum 4 (s.session.map (·.idle)) ++ be 1 s.queue.entries.length ++ flag s.queue.hold ++ flag s.cart.mono
    ++ flag s.cart.colour ++ s.cart.slots.toList.flatMap (fun sl => flag sl.usable) ++ flag s.tamper.latch
    ++ flag s.tamper.input ++ flag s.pool.wipeInProgress ++ be 1 s.jobs.jobs.length ++ be 1 s.store.docs.length
    ++ be 1 s.link.notices.length ++ be 2 s.link.lostNotices ++ be 2 s.link.discarded ++ be 2 s.jobs.lastNumber
    ++ be 2 s.store.lastNumber

def serveStatusRead (body : List Byte) (s : State) : Served :=
  withParsed (parseEmpty body) s fun _ => okWith s s.statusReply

/-! ## FACTORY CLEAR (R179) -/

/-- Steps 2 to 5: retained memory at its defaults. -/
def State.retainedDefaults (s : State) : State :=
  let s := (((s.setAccounts [(1, factoryAccount)]).setHouse {}).setRates defaultRates).setSettings defaultSettings
  let s := (s.setMeters {}).setStore { s.store with docs := [] }
  s.setCart { s.cart with rejectList := [], snapshots := [] }

/-- Step 6: the slots under the default fail limit, verify interval and recheck period. -/
def State.slotsUnderDefaults (s : State) : State :=
  fourIndices.foldl State.recheckPast (fourIndices.foldl State.verifyPast s.examineSlots)

/-- An accepted factory clear, in its order (R179). -/
def State.factoryCleared (s : State) : State := (s.endSession .factoryClear).retainedDefaults.slotsUnderDefaults

def serveFactoryClear (body : List Byte) (s : State) : Served :=
  withParsed (parseEmpty body) s fun _ =>
    if s.isAdmin then
      if s.jobs.jobs.isEmpty then okWith s.factoryCleared (be 1 s.store.docs.length) else refuse s.touchSession .inUse
    else refuse s .notPermitted

/-! ## The commands -/

def execSettingSet (body : List Byte) (s : State) : Answered := .next (requestFrame 32 (serveSettingSet body) s)
def execSettingRead (body : List Byte) (s : State) : Answered := .next (requestFrame 33 (serveSettingRead body) s)
def execStatusRead (body : List Byte) (s : State) : Answered := .next (requestFrame 34 (serveStatusRead body) s)
def execFactoryClear (body : List Byte) (s : State) : Answered := .next (requestFrame 35 (serveFactoryClear body) s)

end Sys2Proof.Machine
end

