-- ==== Sys2Proof/Machine/Jobs.lean ====
section
/-! DEFINITION. The job requests (R37 to R40, R49 to R51, R55) and the drain expiry (R53): JOB OPEN, JOB CLOSE, JOB READ. -/

namespace Sys2Proof.Machine

/-! ## JOB OPEN: the checks (R37, R38) -/

/-- The first condition that applies gives the reply (R38). -/
def firstRefusal : List (Bool × Status) → Option Status
  | [] => none
  | (c, st) :: rest => if c then some st else firstRefusal rest

/-- The largest estimate (R37). -/
def maxEstimate : Nat := 9999

/-- The estimate, user number and document number of the kind are in range (R37). -/
def OpenRequest.rangesGood (r : OpenRequest) : Bool :=
  let estimate := decide (1 ≤ r.estimate ∧ r.estimate ≤ maxEstimate)
  match r.kind with
  | .copy => estimate
  | .scan => estimate
  | .print => estimate && userInRange r.user
  | .boxPrint => decide (r.document ≠ 0)

/-- The document a number names, where the account owns it. -/
def State.ownDocument (s : State) (p n : Nat) : Option Document := (s.document n).filter fun d => d.owner == p

/-- The colour class of the job an open asks for (R34, R38). -/
def State.openColour (s : State) (p : Nat) (r : OpenRequest) : ColourClass :=
  match r.kind with
  | .copy => r.colourClass
  | .print => r.colourClass
  | .scan => .mono
  | .boxPrint => if ((s.ownDocument p r.document).map (·.colour)).getD false then .colour else .mono

/-- The planes the job needs are available (R38 step 6, R120). -/
def State.planesReady (s : State) (k : JobKind) (c : ColourClass) : Bool :=
  match k, c with
  | .scan, _ => true
  | _, .colour => s.cart.colour
  | _, .mono => s.cart.mono

/-- The documents that RECYCLE may erase, oldest first (R139). -/
def State.recycleCandidates (s : State) (p : Nat) : List Document :=
  s.store.docs.filter fun d => d.owner == p && d.state == .stored && d.job.isNone

/-- How many documents must leave before the account's new one fits (R139). -/
def State.toRecycle (s : State) (p : Nat) : Nat :=
  max (s.ownedCount p + 1 - s.settings.ownerCap) (s.store.docs.length - (Config.maxDocuments - 1))

/-- Step 9 for a SCAN open (R38, R139). -/
def State.scanStoreFull (s : State) (p : Nat) : Bool :=
  s.toRecycle p != 0 && (s.settings.boxPolicy == .keep || decide ((s.recycleCandidates p).length < s.toRecycle p))

/-- Step 9 (R38): the document checks of the kind. -/
def State.documentRefusal (s : State) (p : Nat) (r : OpenRequest) : Option Status :=
  match r.kind with
  | .copy => none
  | .print => none
  | .scan => if s.scanStoreFull p then some .storeFull else none
  | .boxPrint =>
    match (s.ownDocument p r.document).filter fun d => d.state == .stored with
    | none => some .noDocument
    | some d => if d.job.isSome then some .inUse else none

/-- Whether a kind works on the document store. -/
def JobKind.usesStore : JobKind → Bool
  | .scan => true
  | .boxPrint => true
  | .copy => false
  | .print => false

/-- Steps 1 to 8 of R38, in order. -/
def State.openChecks (s : State) (p : Nat) (a : Account) (r : OpenRequest) : List (Bool × Status) :=
  let colour := s.openColour p r == .colour
  [(decide (Config.maxJobs ≤ s.jobs.jobs.length), .tableFull),
   (a.state == .suspended, .suspended),
   (a.state == .locked, .locked),
   (a.stage == .stopped, .noCredit),
   (colour && a.colourRight == .mono, .notPermitted),
   (colour && a.stage == .limited, .colourLimited),
   (!s.planesReady r.kind (s.openColour p r), .tonerUnavailable),
   (r.kind.usesStore && !a.boxRight, .notPermitted),
   (r.kind.usesStore && s.tamper.latch, .tampered)]

/-- The refusal of an open that has passed R37, if any (R38). -/
def State.openRefusal (s : State) (p : Nat) (a : Account) (r : OpenRequest) : Option Status :=
  match firstRefusal (s.openChecks p a r) with
  | some st => some st
  | none => s.documentRefusal p r

/-! ## JOB OPEN: numbers, document and hold (R35, R39, R138, R139) -/

/-- The next number after the last one assigned that is not taken, wrapping from 65,535 to 1 (R35, R138).
`fuel` is how many numbers may be taken. -/
def nextNumber (last fuel : Nat) (taken : Nat → Bool) : Nat :=
  (((List.range (fuel + 1)).map fun k => (last + k) % Config.maxNumber + 1).find? fun n => !taken n).getD 0

/-- The number of a new job (R35). -/
def State.nextJobNumber (s : State) : Nat :=
  nextNumber s.jobs.lastNumber s.jobs.jobs.length fun n => (s.job n).isSome

/-- The number of a new document: not held by a document nor named by a job (R138). -/
def State.nextDocumentNumber (s : State) : Nat :=
  nextNumber s.store.lastNumber (s.store.docs.length + s.jobs.jobs.length) fun n =>
    (s.document n).isSome || s.jobList.any fun j => j.document == some n

/-- The documents an accepted SCAN open recycles, oldest first (R139). -/
def State.recycled (s : State) (p : Nat) (k : JobKind) : List Nat :=
  if k = .scan then ((s.recycleCandidates p).take (s.toRecycle p)).map (·.number) else []

/-- A new WRITING document under a fresh key, bound to its SCAN job (R139). -/
def State.createDocument (s : State) (p size job : Nat) : State :=
  let d : Document :=
    { number := s.nextDocumentNumber, owner := p, state := .writing, key := Config.randomKey s.draws, pages := 0, bands := 0,
      colour := false, sizeClass := size, job := some job }
  s.drawn.setStore { docs := s.store.docs ++ [d], lastNumber := s.nextDocumentNumber }

/-- What an accepted open does to the store: RECYCLE and creation for SCAN, the binding for BOX_PRINT (R40 step 2). -/
def State.openDocument (s : State) (p : Nat) (r : OpenRequest) (job : Nat) : State :=
  match r.kind with
  | .copy => s
  | .print => s
  | .scan => ((s.recycled p .scan).foldl State.eraseDocument s).createDocument p r.sizeClass.val job
  | .boxPrint => s.changeDocument r.document fun d => { d with job := some job }

/-- The document number of the new job, given the store after step 2 of R40. -/
def State.openedNumber (t : State) (r : OpenRequest) : Option Nat :=
  match r.kind with
  | .copy => none
  | .print => none
  | .scan => some t.store.lastNumber
  | .boxPrint => some r.document

/-- The hold an open asks for, before the clamp (R39). -/
def State.holdAsked (s : State) (p : Nat) (r : OpenRequest) : Nat :=
  let front (size : Nat) (c : ColourClass) := (s.rates.entry (entryNumber size c .front)).base
  let back (size : Nat) (c : ColourClass) := (s.rates.entry (entryNumber size c .back)).base
  let sheet := front r.sizeClass r.colourClass + if r.duplex then back r.sizeClass r.colourClass else 0
  match r.kind with
  | .copy => r.estimate * sheet
  | .print => r.estimate * sheet
  | .scan => r.estimate * s.rates.scanRate r.sizeClass
  | .boxPrint =>
    match s.ownDocument p r.document with
    | none => 0
    | some d => d.pages * front d.sizeClass (if d.colour then .colour else .mono)

/-- The hold asked for, clamped (R39). -/
def State.holdClamped (s : State) (p : Nat) (r : OpenRequest) : Nat := min Config.maxMoney (s.holdAsked p r)

/-- The job's size class: as opened, or the document's for BOX_PRINT (R34). -/
def State.openSize (s : State) (p : Nat) (r : OpenRequest) : Nat :=
  if r.kind = .boxPrint then ((s.ownDocument p r.document).map (·.sizeClass)).getD 0 else r.sizeClass.val

/-- The record of a new job (R34, R39, R40). The duplex flag is held as opened, whatever the kind (log 22). -/
def State.newJob (s : State) (p : Nat) (r : OpenRequest) (number : Nat) (document : Option Nat) : Job :=
  { number := number, kind := r.kind, owner := p, sizeClass := s.openSize p r, colourClass := s.openColour p r,
    duplex := r.duplex, state := .opened, stopCause := none, engineEnded := false,
    initialHold := min (s.holdClamped p r) (s.available p), holdRemaining := min (s.holdClamped p r) (s.available p),
    short := decide (s.available p < s.holdClamped p r), sheets := 0, monoSides := 0, colourSides := 0, scanPages := 0,
    pointsCharged := 0, pointsDrawn := 0, pointsArrears := 0, colourUnexpected := false, stream := none,
    document := document, eraseAfterPrint := r.kind == .boxPrint && r.erase, scanComplete := false, drain := none }

/-! ## JOB OPEN: acceptance (R40) -/

/-- The record joins the table and its number becomes the last one assigned (R35, R40). -/
def State.addJob (s : State) (j : Job) : State :=
  s.setJobs { jobs := Table.put s.jobs.jobs j.number j, lastNumber := j.number }

/-- An accepted open, up to the stage (R40). -/
def State.acceptOpen (s : State) (p : Nat) (r : OpenRequest) : State :=
  let t := s.openDocument p r s.nextJobNumber
  (t.addJob (s.newJob p r s.nextJobNumber (t.openedNumber r))).reevaluate p

/-- The JOB OPEN reply (chapter 11), from the state before and the state after. -/
def State.openReply (s t : State) (p n : Nat) (k : JobKind) : List Byte :=
  match t.job n with
  | none => []
  | some j =>
    be 2 n ++ be 2 (j.document.getD 0) ++ be 4 j.initialHold ++ flag j.short ++ enumByte j.state.code ++ t.stageByte p
      ++ be 4 (t.available p) ++ listField (be 2) (s.recycled p k)

/-- An open that has passed R37, checked by R38 and accepted by R40. -/
def State.openFor (s : State) (p : Nat) (a : Account) (r : OpenRequest) : Served :=
  match s.openRefusal p a r with
  | some st => refuse s st
  | none => okWith (s.acceptOpen p r) (s.openReply (s.acceptOpen p r) p s.nextJobNumber r.kind)

/-- A PRINT open: no session and no authority; ranges, then the account (R37). -/
def State.openPrint (s : State) (r : OpenRequest) : Served :=
  if r.rangesGood then
    match s.findUser r.user with
    | none => refuse s .noAccount
    | some (p, a) => s.openFor p a r
  else refuse s .range

/-- A COPY, SCAN or BOX_PRINT open takes the session's account as owner, and without a session it is refused NO_SESSION before
the tamper latch is looked at (R37, R38; log 42). -/
def State.openPanel (s : State) (r : OpenRequest) : Served :=
  asSession s fun se s =>
    if r.rangesGood then
      match s.account se.position with
      | none => refuse s .noAccount
      | some a => s.openFor se.position a r
    else refuse s .range

def serveJobOpen (body : List Byte) (s : State) : Served :=
  withParsed (parseJobOpen body) s fun r => if r.kind = .print then s.openPrint r else s.openPanel r

/-! ## JOB CLOSE (R49 to R51) -/

/-- A request that names a job in the table. -/
def withJob (s : State) (n : Nat) (serve : Job → Served) : Served :=
  match s.job n with
  | none => refuse s .range
  | some j => serve j

/-- Step 3 of R49: the bound stream is in FLOW, or has a half in the cipher unit or being sent. -/
def State.streamInHand (s : State) (j : Job) : Bool :=
  match j.stream with
  | none => false
  | some i => (s.stream i).state == .flow || (s.stream i).inHand

/-- The bound stream of a job is unbound (R49). -/
def State.unbindJob (s : State) (j : Job) : State :=
  match j.stream with
  | none => s
  | some i => s.unbind i

/-- What the kind decides at a close, the stream being unbound (R50, R51). -/
def State.closeKind (s : State) (j : Job) : State :=
  if j.kind = .scan then s.removeScanJob j
  else if j.engineEnded then s.removeJob j .complete
  else s.changeJob j.number fun j => { j with state := .closing, drain := some 0 }

/-- An accepted JOB CLOSE (R49). -/
def State.closeJob (s : State) (j : Job) : State :=
  let s := s.unbindJob j
  s.closeKind { j with stream := none }

/-- The number REMOVED takes after the states of R34 (R181; log 20). -/
def removedCode : Nat := 4

/-- The JOB CLOSE reply: the state after, sheets settled and points charged (R49). -/
def State.closeReply (t : State) (j : Job) : List Byte :=
  enumByte (((t.job j.number).map fun x => x.state.code).getD removedCode) ++ be 4 j.sheets ++ be 8 j.pointsCharged

def serveJobClose (body : List Byte) (s : State) : Served :=
  withParsed (parseNumber 2 body) s fun n => withJob s n fun j =>
    if j.state = .closing then refuse s .busy
    else if s.streamInHand j then refuse s .busy
    else okWith (s.closeJob j) ((s.closeJob j).closeReply j)

/-! ## JOB READ (R55) -/

/-- The fields of the record of R34, in its order. -/
def Job.bytes (j : Job) : List Byte :=
  be 2 j.number ++ enumByte j.kind.code ++ be 1 j.owner ++ be 1 j.sizeClass ++ enumByte j.colourClass.code ++ flag j.duplex
    ++ enumByte j.state.code ++ optEnum (j.stopCause.map StopCause.code) ++ flag j.engineEnded ++ be 4 j.initialHold
    ++ be 4 j.holdRemaining ++ flag j.short ++ be 4 j.sheets ++ be 4 j.monoSides ++ be 4 j.colourSides ++ be 4 j.scanPages
    ++ be 8 j.pointsCharged ++ be 8 j.pointsDrawn ++ be 8 j.pointsArrears ++ flag j.colourUnexpected
    ++ optNum 1 (j.stream.map Fin.val) ++ optNum 2 j.document ++ flag j.eraseAfterPrint ++ flag j.scanComplete
    ++ flag j.drain.isSome

def State.jobReply (s : State) (j : Job) : List Byte :=
  j.bytes ++ optNum 4 j.drain ++ be 4 (s.userNumber j.owner) ++ be 4 (((s.account j.owner).map (·.balance)).getD 0)
    ++ be 4 (s.available j.owner) ++ s.stageByte j.owner

def serveJobRead (body : List Byte) (s : State) : Served :=
  withParsed (parseNumber 2 body) s fun n => withJob s n fun j => okWith s (s.jobReply j)

/-! ## The commands -/

def execJobOpen (body : List Byte) (s : State) : Answered := .next (requestFrame 14 (serveJobOpen body) s)
def execJobClose (body : List Byte) (s : State) : Answered := .next (requestFrame 15 (serveJobClose body) s)
def execJobRead (body : List Byte) (s : State) : Answered := .next (requestFrame 16 (serveJobRead body) s)

/-- A CLOSING job's drain timer reaches the drain limit (R53). -/
def execDrainExpiry (job : Nat) (s : State) : Answered := .next (outsideReset s fun s => s.expireDrain job)

end Sys2Proof.Machine
end

