-- ==== Sys2Proof/Machine/StreamRequests.lean ====
section
/-! DEFINITION. The stream requests (R151 to R156): STREAM BIND, FLOW, HOLD, CLEAR, RELEASE and READ. -/

namespace Sys2Proof.Machine

/-- A request that names a stream: a number above 3 is refused RANGE. -/
def withStream (s : State) (n : Nat) (serve : Fin 4 → Served) : Served :=
  match State.streamIndex n with
  | none => refuse s .range
  | some i => serve i

/-! ## STREAM BIND (R125, R151) -/

/-- The colour mark keeps a MONO owner from binding a BOX_PRINT job (R151 step 2). -/
def State.bindsColour (s : State) (j : Job) (a : Account) : Bool :=
  j.kind == .boxPrint && s.documentColour j.document && a.colourRight == .mono

/-- Step 2 of R151. -/
def State.bindForbidden (s : State) (se : Session) (j : Job) (a : Account) : Bool :=
  !j.kind.usesStore || j.stream.isSome || j.owner != se.position || j.state == .closing
    || (j.kind == .scan && j.state != .opened) || !a.boxRight || s.bindsColour j a

/-- A window outside the ranges of R124 or past block 511 (R125 step 3). -/
def Window.outOfRange (w : Window) : Bool :=
  decide (w.perHalf < 1 ∨ 64 < w.perHalf) || decide (w.halves < 1 ∨ 2 < w.halves)
    || decide (Config.poolBlocks ≤ w.first) || decide (Config.poolBlocks < w.first + w.perHalf * w.halves)

/-- A block of the window belongs to another stream's window (R125 step 5). -/
def State.windowOverlaps (s : State) (w : Window) : Bool :=
  s.streams.toList.any fun st => ((st.window.map Window.range).map fun r => r.overlaps w.range).getD false

/-- A block of the window lies within a range on the wipe list (R125 step 6). -/
def State.windowWiped (s : State) (w : Window) : Bool := s.pool.wipe.any fun r => r.overlaps w.range

/-- No place on the wipe list is free for the window (R125 step 7, R126). -/
def State.wipeReserved (s : State) : Bool := decide (Config.wipeSize ≤ s.pool.wipe.length + boundWindows s.streams)

/-- The checks of R151 and R125 in order, once stream and job are known. -/
def State.bindChecks (s : State) (se : Session) (i : Fin 4) (j : Job) (a : Account) (w : Window) : List (Bool × Status) :=
  [((s.stream i).bound, .busy),
   (s.bindForbidden se j a, .notPermitted),
   ((j.document.bind s.document).isNone, .noDocument),
   (s.tamper.latch, .tampered),
   (w.outOfRange, .range),
   (s.pool.underReset, .busy),
   (s.windowOverlaps w, .overlap),
   (s.windowWiped w, .busy),
   (s.wipeReserved, .busy)]

/-- The kind of the stream a job binds (R149). -/
def JobKind.streamKind (k : JobKind) : StreamKind := if k = .scan then .encode else .release

/-- The stream record after a bind (R151). -/
def Job.boundStream (j : Job) (w : Window) : Stream :=
  { kind := some j.kind.streamKind, state := .hold, job := some j.number, document := j.document, window := some w,
    pageStart := true, pageClass := j.sizeClass }

/-- An accepted bind (R151). -/
def State.bindStream (s : State) (i : Fin 4) (j : Job) (w : Window) : State :=
  (s.setStream i (j.boundStream w)).changeJob j.number fun j => { j with stream := some i }

def Window.bytes (w : Window) : List Byte := be 2 w.first ++ be 1 w.perHalf ++ be 1 w.halves

/-- STREAM BIND on a present job, from step 1 of R125 on. -/
def State.bindJob (s : State) (se : Session) (i : Fin 4) (j : Job) (w : Window) : Served :=
  match s.account j.owner with
  | none => refuse s .notPermitted
  | some a =>
    match firstRefusal (s.bindChecks se i j a w) with
    | some st => refuse s st
    | none => okWith (s.bindStream i j w) (be 1 i.val ++ enumByte j.kind.streamKind.code ++ w.bytes)

def serveStreamBind (body : List Byte) (s : State) : Served :=
  withParsed (parseStreamBind body) s fun r => asSession s fun se s =>
    withStream s r.stream fun i => withJob s r.job fun j => s.bindJob se i j r.window

/-! ## STREAM FLOW (R152, R169) -/

/-- The job of a stream. -/
def State.streamJob (s : State) (i : Fin 4) : Option Job := (s.stream i).job.bind s.job

/-- The session is OPEN on the owner of the stream's job. -/
def State.ownerPresent (s : State) (i : Fin 4) : Bool := ((s.streamJob i).map fun j => s.sessionOn j.owner).getD false

/-- Release gating, in the order of R152. -/
def State.flowChecks (s : State) (i : Fin 4) : List (Bool × Status) :=
  [(s.tamper.latch, .tampered),
   (!s.ownerPresent i, .noSession),
   ((s.streamJob i).map (·.state) == some .stopping, .notPermitted),
   (!s.cart.mono || (!s.cart.colour && s.documentColour (s.stream i).document), .tonerUnavailable)]

/-- The refusal of STREAM FLOW in HOLD, if any: an ENCODE stream needs no further check (R152). -/
def State.flowRefusal (s : State) (i : Fin 4) : Option Status :=
  if (s.stream i).kind = some .release then firstRefusal (s.flowChecks i) else none

/-- The stream enters FLOW, and its idle timer starts under the conditions of R152. -/
def Stream.flowing (st : Stream) : Stream :=
  { st with state := .flow, idle := if st.stored && !st.lastBand then some 0 else none }

/-- STREAM FLOW on a RELEASE stream restarts the session idle timer while the session is on the job's owner (R152; log 35). -/
def State.touchForFlow (s : State) (i : Fin 4) : State :=
  if (s.stream i).kind = some .release ∧ s.ownerPresent i then s.touchSession else s

/-- STREAM FLOW on a stream (R152). -/
def State.flowStream (s : State) (i : Fin 4) : Served :=
  if (s.stream i).state = .hold then
    match s.flowRefusal i with
    | some st => refuse s st
    | none => okWith (s.changeStream i Stream.flowing) []
  else refuse s .busy

def serveStreamFlow (body : List Byte) (s : State) : Served :=
  withParsed (parseNumber 1 body) s fun n => withStream s n fun i => (s.touchForFlow i).flowStream i

/-! ## STREAM HOLD (R153) -/

def Stream.holding (st : Stream) : Stream := { st with state := .hold, idle := none }

/-- The states of the halves as they stand, of both halves whatever the window (R153, R181; log 20). -/
def Stream.halfBytesNow (st : Stream) : List Byte := enumByte st.half0.state.code ++ enumByte st.half1.state.code

def State.holdStream (s : State) (i : Fin 4) : Served :=
  if (s.stream i).state = .flow then okWith (s.changeStream i Stream.holding) (s.stream i).halfBytesNow
  else refuse s .busy

def serveStreamHold (body : List Byte) (s : State) : Served :=
  withParsed (parseNumber 1 body) s fun n => withStream s n fun i => s.holdStream i

/-! ## STREAM CLEAR (R140, R154) -/

/-- What a CLEAR does to either kind of stream (R154). -/
def Stream.cleared (st : Stream) : Stream :=
  { st with state := .hold, haltCause := none, checkErrors := 0, intake := false, output := false, lastBand := false,
            stored := false }

/-- What a CLEAR does besides to an ENCODE stream, its job's size class given (R154). -/
def Stream.restarted (st : Stream) (size : Nat) : Stream :=
  { st with nextBand := 0, page := 0, bands := 0, pages := 0, seqBit := false, pageStart := true, pageClass := size }

/-- A document under a fresh key (R140). -/
def Document.renewed (d : Document) (key : Key) (size : Nat) : Document :=
  { d with key := key, pages := 0, bands := 0, colour := false, sizeClass := size }

/-- The key renewal of an ENCODE stream's document (R140). -/
def State.renewDocument (s : State) (n size : Nat) : State :=
  (s.changeDocument n fun d => d.renewed (Config.randomKey s.draws) size).drawn

/-- An accepted CLEAR (R154). -/
def State.clearStream (s : State) (i : Fin 4) (document : Nat) : State :=
  let st := (s.stream i).cleared
  if st.kind = some .encode then
    let size := ((s.streamJob i).map (·.sizeClass)).getD 0
    (s.renewDocument document size).setStream i (st.restarted size)
  else s.setStream i st

/-- Next band and page number, for the reply (R154). -/
def Stream.resumeBytes (st : Stream) : List Byte := be 2 st.nextBand ++ be 2 st.page

/-- STREAM CLEAR on a stream (R154). -/
def State.clearRequest (s : State) (i : Fin 4) : Served :=
  let st := s.stream i
  if st.state = .halt ∧ st.haltFillDone then
    match st.document.bind s.document with
    | none => refuse s .noDocument
    | some d => okWith (s.clearStream i d.number) ((s.clearStream i d.number).stream i).resumeBytes
  else refuse s .busy

def serveStreamClear (body : List Byte) (s : State) : Served :=
  withParsed (parseNumber 1 body) s fun n => withStream s n fun i => s.clearRequest i

/-! ## STREAM RELEASE (R155) -/

def State.releaseStream (s : State) (i : Fin 4) : Served :=
  let st := s.stream i
  if st.state = .idle ∨ st.state = .flow then refuse s .busy
  else if st.inHand then refuse s .busy
  else okWith (s.unbind i) []

def serveStreamRelease (body : List Byte) (s : State) : Served :=
  withParsed (parseNumber 1 body) s fun n => withStream s n fun i => s.releaseStream i

/-! ## STREAM READ (R156) -/

def BandHeader.bytes (h : BandHeader) : List Byte :=
  [h.flags] ++ be 1 h.sizeClass ++ be 2 h.length ++ be 2 h.band ++ be 2 h.page

/-- The record of R149, in its order, with both halves whatever the window (log 20). -/
def Stream.bytes (st : Stream) : List Byte :=
  optEnum (st.kind.map StreamKind.code) ++ enumByte st.state.code ++ optNum 2 st.job ++ optNum 2 st.document
    ++ optField 4 Window.bytes st.window ++ st.halfBytesNow ++ optField 8 BandHeader.bytes st.half0.header
    ++ optField 8 BandHeader.bytes st.half1.header ++ be 1 st.intake.toNat ++ be 1 st.output.toNat ++ be 1 st.seqBit.toNat
    ++ be 2 st.nextBand ++ be 2 st.page ++ flag st.pageStart ++ be 1 st.pageClass ++ flag st.lastBand
    ++ optEnum (st.haltCause.map HaltCause.code) ++ be 2 st.bands ++ be 2 st.pages ++ be 2 st.duplicates ++ be 2 st.refused
    ++ be 1 st.checkErrors ++ flag st.idle.isSome

/-- The band count of a RELEASE stream's document (R156), 0 once the document has been erased (log 44). -/
def State.releaseBands (s : State) (st : Stream) : Option Nat :=
  if st.kind = some .release then some (((st.document.bind s.document).map (·.bands)).getD 0) else none

/-- The STREAM READ reply (R156). -/
def State.streamReply (s : State) (i : Fin 4) : List Byte :=
  let st := s.stream i
  st.bytes ++ flag (scanReady s.ports st i) ++ flag (s.ports.scanArriving i || s.ports.imgArriving i) ++ flag st.haltFilling
    ++ optNum 2 (s.releaseBands st)

def serveStreamRead (body : List Byte) (s : State) : Served :=
  withParsed (parseNumber 1 body) s fun n => withStream s n fun i => okWith s (s.streamReply i)

/-! ## The commands -/

def execStreamBind (body : List Byte) (s : State) : Answered := .next (requestFrame 23 (serveStreamBind body) s)
def execStreamFlow (body : List Byte) (s : State) : Answered := .next (requestFrame 24 (serveStreamFlow body) s)
def execStreamHold (body : List Byte) (s : State) : Answered := .next (requestFrame 25 (serveStreamHold body) s)
def execStreamClear (body : List Byte) (s : State) : Answered := .next (requestFrame 26 (serveStreamClear body) s)
def execStreamRelease (body : List Byte) (s : State) : Answered := .next (requestFrame 27 (serveStreamRelease body) s)
def execStreamRead (body : List Byte) (s : State) : Answered := .next (requestFrame 28 (serveStreamRead body) s)

end Sys2Proof.Machine
end

