-- ==== Sys2Proof/Machine/LinkEvents.lean ====
section
/-! DEFINITION. The events of the command link (R170 to R174): frames given as the bytes that came, the gap, and the end of
a sending. -/

namespace Sys2Proof.Machine

/-- The request of a class, on a body (chapter 11, Request classes). -/
def serveClass (cls : Nat) : Option (List Byte → State → Served) :=
  match cls with
  | 1 => some serveLogin | 2 => some serveLogout | 3 => some serveTouch | 4 => some serveAccountAdd
  | 5 => some serveAccountChange | 6 => some serveAccountUnlock | 7 => some serveAccountRemove | 8 => some serveCredit
  | 9 => some serveAccountRead | 10 => some serveRateSet | 11 => some serveAreaSet | 12 => some serveRateRead
  | 13 => some serveRateQuote | 14 => some serveJobOpen | 15 => some serveJobClose | 16 => some serveJobRead
  | 17 => some serveQueueRead | 18 => some serveMeterRead | 19 => some serveSlotRead | 20 => some serveSnapshotRead
  | 21 => some serveRejectRemove | 22 => some servePoolRead | 23 => some serveStreamBind | 24 => some serveStreamFlow
  | 25 => some serveStreamHold | 26 => some serveStreamClear | 27 => some serveStreamRelease | 28 => some serveStreamRead
  | 29 => some serveDocumentErase | 30 => some serveDocumentList | 31 => some serveTamperClear | 32 => some serveSettingSet
  | 33 => some serveSettingRead | 34 => some serveStatusRead | 35 => some serveFactoryClear
  | _ => none

/-- What the frame of a class and a body is served with: an unknown class is refused UNKNOWN (R173). -/
def serveFrame (cls : Byte) (body : List Byte) (s : State) : Served :=
  match serveClass cls.toNat with
  | some serve => serve body s
  | none => refuse s .unknown

/-- The class of a FRAME_ERROR reply (R173). -/
def frameErrorClass : Byte := 128

/-- A broken frame, or one with a bad check (R172, R173). -/
def badFrame (s : State) : State :=
  outsideReset s fun s =>
    if s.link.requestSlot.isNone then s.reply frameErrorClass [Status.frameError.code] else s.setLink s.link.discard

/-- A frame by the bytes that came on CMD RX (R170 to R173). Bytes that end no frame change nothing (log 6). -/
def State.frameEnded (s : State) (line : List LineByte) : State :=
  match receiveCommand line with
  | .hunting => s
  | .partly => s
  | .broken => badFrame s
  | .complete covered good =>
    match good, classAndBody covered with
    | true, some (cls, body) => requestFrame cls (serveFrame cls body) s
    | _, _ => badFrame s

/-- A gap of more than 2 ms inside a frame breaks it (R170). -/
def State.frameGap (s : State) (line : List LineByte) : State :=
  match receiveCommand line with
  | .partly => badFrame s
  | .hunting => s
  | .broken => s
  | .complete _ _ => s

/-- The last byte of the frame on CMD TX is sent: its slot empties (R172, R174). -/
def Link.sendComplete (l : Link) : Link :=
  match l.tx with
  | .idle => l
  | .notice _ => { l with tx := .idle }
  | .reply .request => { l with tx := .idle, requestSlot := none }
  | .reply .refusal => { l with tx := .idle, refusalSlot := none }

def execFrameError (line : List LineByte) (s : State) : Answered := .next (s.frameEnded line)
def execFrameWhileSlotOccupied (line : List LineByte) (s : State) : Answered := .next (s.frameEnded line)
def execCmdGapExpiry (line : List LineByte) (s : State) : Answered := .next (s.frameGap line)
def execCmdTxSendComplete (s : State) : Answered := .next (outsideReset s fun s => s.setLink s.link.sendComplete)

end Sys2Proof.Machine
end

