-- ==== Sys2Proof/Machine/Supply.lean ====
section
/-! DEFINITION. The supply reset and its end (R4, R13, R36, R73, R88, R133, R145, R147, R150, R180). -/

namespace Sys2Proof.Machine

/-- A slot during a supply reset: presence and the retained record are kept (R87, R88). -/
def Slot.inReset (sl : Slot) : Slot :=
  { present := sl.present, retainedSerial := sl.retainedSerial, retainedFails := sl.retainedFails }

/-- The cartridge unit during a supply reset (R88, R118). -/
def CartUnit.inReset (u : CartUnit) : CartUnit :=
  { u with
    slots := { a0 := u.slots.a0.inReset, a1 := u.slots.a1.inReset, a2 := u.slots.a2.inReset, a3 := u.slots.a3.inReset }
    lastServed := servedLast, transaction := none, mono := false, colour := false, levelMoved := fourOf false }

/-- The credit stage of an account after a supply reset: no holds, no hysteresis (R4, R59). -/
def Account.inReset (st : Settings) (a : Account) : Account := { a with stage := stageFresh st a.balance }

/-- The number of WRITING documents. -/
def DocStore.writing (d : DocStore) : Nat := d.docs.countP fun x => x.state == .writing

/-- WRITING documents are erased, STORED ones kept and unbound (R145). -/
def DocStore.inReset (d : DocStore) : DocStore :=
  { d with docs := (d.docs.filter fun x => x.state == .stored).map fun x => { x with job := none } }

/-- The pool during a supply reset: every block under RESET, the fill engine idle (R133; log 12). -/
def resetPool (draw : Nat) : Pool :=
  { mem := Memory.ofCells (Config.poolAfterReset draw), wipe := [], fill := none, waiting := [], underReset := true }

/-- The reset as its end reports it; a reset within a reset adds to the counts and gives the cause (R147, R180; log 23). -/
def State.resetPhase (s : State) (cause : ResetCause) : ResetPhase :=
  match s.resetting with
  | none => { cause := cause, writingErased := s.store.writing, tamperEvents := 0, tamperErased := 0 }
  | some r => { r with cause := cause, writingErased := r.writingErased + s.store.writing }

/-- A supply reset: volatile memory at its reset values, retained memory kept but for the documents. -/
def State.supplyReset (s : State) (cause : ResetCause) : State :=
  { s with
    link := emptyLink
    accounts := s.accounts.map fun c => (c.1, c.2.inReset s.settings)
    session := none
    jobs := { jobs := [], lastNumber := s.jobs.lastNumber }
    queue := emptyQueue
    cart := s.cart.inReset
    pool := resetPool s.draws
    streams := fourOf {}
    ports := emptyPorts
    cipher := emptyCipher
    store := s.store.inReset
    resetting := some (s.resetPhase cause)
    draws := s.draws + 1 }

/-- A slot as the reset ends: a present cartridge is identified (R88). -/
def Slot.afterReset (sl : Slot) : Slot :=
  if sl.present then { sl.askIdentify with state := .identifying } else sl

/-- The TAMPER notice of the events taken during the reset, where there were any (R147). -/
def State.tellTamper (s : State) (r : ResetPhase) : State :=
  if r.tamperEvents = 0 then s
  else s.post (.tamper { events := r.tamperEvents, erased := r.tamperErased, sessionEnded := false,
                         meter := s.meters.tamperEvents, latch := s.tamper.latch })

/-- The slots and the fill engine as the reset ends (R88, R133). -/
def State.afterReset (s : State) : State :=
  let u := s.cart
  let s := s.setCart { u with slots := { a0 := u.slots.a0.afterReset, a1 := u.slots.a1.afterReset,
                                         a2 := u.slots.a2.afterReset, a3 := u.slots.a3.afterReset } }
  (s.setPool { s.pool with fill := some .full }).setResetting none

/-- The end of the reset: RESTART, then TAMPER (R147, R180). -/
def State.resetEnded (s : State) : State :=
  match s.resetting with
  | none => s
  | some r =>
    let s := s.afterReset
    ((s.post (.restart r.cause r.writingErased s.meters.tamperEvents s.tamper.latch)).tellTamper r).finish

def execSupplyReset (cause : ResetCause) (s : State) : Answered := .next (s.supplyReset cause)
def execResetEnd (s : State) : Answered := .next s.resetEnded

end Sys2Proof.Machine
end

