-- ==== Sys2Proof/Machine/Dispatch.lean ====
section
/-! DEFINITION. One arm per command. -/

namespace Sys2Proof.Machine

def exec (i : Instr) (s : State) : Host.Outcome State Fault Refusal :=
  match i with
  | .login body => Sys2Proof.Machine.execLogin body s
  | .logout body => Sys2Proof.Machine.execLogout body s
  | .touch body => Sys2Proof.Machine.execTouch body s
  | .accountAdd body => Sys2Proof.Machine.execAccountAdd body s
  | .accountChange body => Sys2Proof.Machine.execAccountChange body s
  | .accountUnlock body => Sys2Proof.Machine.execAccountUnlock body s
  | .accountRemove body => Sys2Proof.Machine.execAccountRemove body s
  | .credit body => Sys2Proof.Machine.execCredit body s
  | .accountRead body => Sys2Proof.Machine.execAccountRead body s
  | .rateSet body => Sys2Proof.Machine.execRateSet body s
  | .areaSet body => Sys2Proof.Machine.execAreaSet body s
  | .rateRead body => Sys2Proof.Machine.execRateRead body s
  | .rateQuote body => Sys2Proof.Machine.execRateQuote body s
  | .jobOpen body => Sys2Proof.Machine.execJobOpen body s
  | .jobClose body => Sys2Proof.Machine.execJobClose body s
  | .jobRead body => Sys2Proof.Machine.execJobRead body s
  | .queueRead body => Sys2Proof.Machine.execQueueRead body s
  | .meterRead body => Sys2Proof.Machine.execMeterRead body s
  | .slotRead body => Sys2Proof.Machine.execSlotRead body s
  | .snapshotRead body => Sys2Proof.Machine.execSnapshotRead body s
  | .rejectRemove body => Sys2Proof.Machine.execRejectRemove body s
  | .poolRead body => Sys2Proof.Machine.execPoolRead body s
  | .streamBind body => Sys2Proof.Machine.execStreamBind body s
  | .streamFlow body => Sys2Proof.Machine.execStreamFlow body s
  | .streamHold body => Sys2Proof.Machine.execStreamHold body s
  | .streamClear body => Sys2Proof.Machine.execStreamClear body s
  | .streamRelease body => Sys2Proof.Machine.execStreamRelease body s
  | .streamRead body => Sys2Proof.Machine.execStreamRead body s
  | .documentErase body => Sys2Proof.Machine.execDocumentErase body s
  | .documentList body => Sys2Proof.Machine.execDocumentList body s
  | .tamperClear body => Sys2Proof.Machine.execTamperClear body s
  | .settingSet body => Sys2Proof.Machine.execSettingSet body s
  | .settingRead body => Sys2Proof.Machine.execSettingRead body s
  | .statusRead body => Sys2Proof.Machine.execStatusRead body s
  | .factoryClear body => Sys2Proof.Machine.execFactoryClear body s
  | .frameError line => Sys2Proof.Machine.execFrameError line s
  | .frameWhileSlotOccupied line => Sys2Proof.Machine.execFrameWhileSlotOccupied line s
  | .cmdGapExpiry line => Sys2Proof.Machine.execCmdGapExpiry line s
  | .cmdTxSendComplete => Sys2Proof.Machine.execCmdTxSendComplete s
  | .engineRecordArrival line => Sys2Proof.Machine.execEngineRecordArrival line s
  | .engineGapExpiry line => Sys2Proof.Machine.execEngineGapExpiry line s
  | .takeSheet => Sys2Proof.Machine.execTakeSheet s
  | .takeJobEnd => Sys2Proof.Machine.execTakeJobEnd s
  | .takeDamaged => Sys2Proof.Machine.execTakeDamaged s
  | .drainExpiry job => Sys2Proof.Machine.execDrainExpiry job s
  | .sessionIdleExpiry => Sys2Proof.Machine.execSessionIdleExpiry s
  | .cartInserted slot => Sys2Proof.Machine.execCartInserted slot s
  | .cartRemoved slot => Sys2Proof.Machine.execCartRemoved slot s
  | .cartIdentifyAnswer answer => Sys2Proof.Machine.execCartIdentifyAnswer answer s
  | .cartChallengeAnswer answer => Sys2Proof.Machine.execCartChallengeAnswer answer s
  | .cartDebitAnswer answer => Sys2Proof.Machine.execCartDebitAnswer answer s
  | .cartBadAnswer answer => Sys2Proof.Machine.execCartBadAnswer answer s
  | .cartAnswerTimeout => Sys2Proof.Machine.execCartAnswerTimeout s
  | .recheckExpiry slot => Sys2Proof.Machine.execRecheckExpiry slot s
  | .flushExpiry slot => Sys2Proof.Machine.execFlushExpiry slot s
  | .tamperEvent => Sys2Proof.Machine.execTamperEvent s
  | .tamperRelease => Sys2Proof.Machine.execTamperRelease s
  | .scanArrivalBegin header => Sys2Proof.Machine.execScanArrivalBegin header s
  | .scanFrameEnd tail => Sys2Proof.Machine.execScanFrameEnd tail s
  | .scanGapExpiry => Sys2Proof.Machine.execScanGapExpiry s
  | .imgArrivalBegin header => Sys2Proof.Machine.execImgArrivalBegin header s
  | .imgFrameEnd tail => Sys2Proof.Machine.execImgFrameEnd tail s
  | .imgGapExpiry => Sys2Proof.Machine.execImgGapExpiry s
  | .cipherEncodeComplete => Sys2Proof.Machine.execCipherEncodeComplete s
  | .cipherReleaseComplete => Sys2Proof.Machine.execCipherReleaseComplete s
  | .imgSendComplete => Sys2Proof.Machine.execImgSendComplete s
  | .videoSendComplete => Sys2Proof.Machine.execVideoSendComplete s
  | .streamIdleExpiry stream => Sys2Proof.Machine.execStreamIdleExpiry stream s
  | .haltFillHalfComplete => Sys2Proof.Machine.execHaltFillHalfComplete s
  | .wipeRangeComplete => Sys2Proof.Machine.execWipeRangeComplete s
  | .fullFillComplete => Sys2Proof.Machine.execFullFillComplete s
  | .supplyReset cause => Sys2Proof.Machine.execSupplyReset cause s
  | .resetEnd => Sys2Proof.Machine.execResetEnd s

end Sys2Proof.Machine
end

