-- ==== Sys2Proof/Machine/Tick.lean ====
section
/-! DEFINITION. Time: one tick of 1 ms, which an empty queue of commands lets pass (log 4). -/

namespace Sys2Proof.Machine

/-- A running timer 1 ms on. -/
def later (t : Option Nat) : Option Nat := t.map (· + 1)

/-- Whether a timer has reached its limit in ms. -/
def reached (t : Option Nat) (limit : Nat) : Bool := (t.map fun x => decide (limit ≤ x)).getD false

def Slot.later (sl : Slot) : Slot := { sl with recheck := Machine.later sl.recheck, flush := Machine.later sl.flush }

def Stream.later (st : Stream) : Stream := { st with idle := Machine.later st.idle }

def Four.map {α : Type} (q : Four α) (f : α → α) : Four α := ⟨f q.a0, f q.a1, f q.a2, f q.a3⟩

/-- Every running timer 1 ms on. -/
def State.later (s : State) : State :=
  let s := s.setSession (s.session.map fun se => { se with idle := se.idle + 1 })
  let s := s.setJobs { s.jobs with jobs := s.jobs.jobs.map fun c => (c.1, { c.2 with drain := Machine.later c.2.drain }) }
  let s := s.setCart { s.cart with
    slots := s.cart.slots.map Slot.later
    transaction := s.cart.transaction.map fun t => { t with elapsed := t.elapsed + 1 } }
  s.setStreams (s.streams.map Stream.later)

/-- The expiries now due, in the order in which they are taken (log 4). -/
def State.due (s : State) : List Instr :=
  (if reached (s.session.map (·.idle)) (s.settings.sessionIdle * 1000) then [.sessionIdleExpiry] else [])
    ++ ((s.jobList.filter fun j => reached j.drain (s.settings.drainLimit * 1000)).map fun j => .drainExpiry j.number)
    ++ ((fourIndices.filter fun i => reached (s.slot i).recheck (s.settings.recheckPeriod * 1000)).map .recheckExpiry)
    ++ ((fourIndices.filter fun i => reached (s.slot i).flush Config.flushMs).map .flushExpiry)
    ++ ((fourIndices.filter fun i => reached (s.stream i).idle s.settings.streamIdle).map .streamIdleExpiry)
    ++ (if reached (s.cart.transaction.map (·.elapsed)) Config.answerMs then [.cartAnswerTimeout] else [])

/-- One tick: timers run, and the expiries due join the queue of commands. Nothing runs in a supply reset. -/
def State.tick (s : State) : State :=
  if s.resetting.isSome then s else s.later.setPending s.later.due

end Sys2Proof.Machine
end

