-- ==== Sys2Proof/Machine/Step.lean ====
section
/-! DEFINITION. One step: the command at the front of the queue, or a tick when no command waits (log 4). -/

namespace Sys2Proof.Machine

/-- The command at the front runs on everything but the queue, which keeps its rest. -/
def step (s : State) : Host.Outcome State Fault Refusal :=
  match s.pending with
  | [] => .next s.tick
  | c :: rest => exec c (s.setPending rest)

/-- The state with the command a word spells put at the front of its queue. -/
def State.withFetchWord (s : State) (nbits w : Nat) : State :=
  match decodeTableWord nbits w with
  | none => s
  | some c => s.setPending (c :: s.pending)

end Sys2Proof.Machine
end

