-- ==== Sys2Proof/Machine/Outputs.lean ====
section
/-! DEFINITION. The output lines as functions of the state: CMD TX with the bodies of notices, SCAN READY, the cartridge
line, IMG TX and VIDEO TX (chapter 11; logs 11, 21, 33). -/

namespace Sys2Proof.Machine

/-! ## Bodies of notices: the subject where the kind has one, then the content the owning rule names (log 21) -/

/-- The outcome of an enumeration that the model holds as an option and the content always carries. -/
def presentCode (x : Option Nat) : List Byte := enumByte (x.getD 0)

def JobSummary.bytes (x : JobSummary) : List Byte :=
  be 2 x.number ++ enumByte x.kind.code ++ be 4 x.user ++ enumByte x.endMark.code ++ optEnum (x.stopCause.map StopCause.code)
    ++ be 4 x.initialHold ++ flag x.short ++ be 4 x.holdReleased ++ be 4 x.sheets ++ be 4 x.monoSides ++ be 4 x.colourSides
    ++ be 4 x.scanPages ++ be 8 x.pointsCharged ++ be 8 x.pointsDrawn ++ be 8 x.pointsArrears ++ flag x.colourUnexpected
    ++ optNum 2 x.document ++ optEnum (x.outcome.map DocOutcome.code)

def HaltReport.bytes (x : HaltReport) : List Byte :=
  be 1 x.stream.val ++ presentCode (x.kind.map StreamKind.code) ++ be 2 (x.job.getD 0) ++ be 2 (x.document.getD 0)
    ++ enumByte x.cause.code ++ be 2 x.nextBand ++ be 2 x.page ++ be 2 x.bands ++ be 2 x.pages ++ be 2 x.duplicates
    ++ be 2 x.refused

def DoneReport.bytes (x : DoneReport) : List Byte :=
  be 1 x.stream.val ++ be 2 (x.job.getD 0) ++ be 2 (x.document.getD 0) ++ be 2 x.bands ++ be 2 x.pages ++ be 2 x.duplicates
    ++ be 2 x.refused

def CartReport.bytes (x : CartReport) : List Byte :=
  be 1 x.slot.val ++ enumByte x.before.code ++ enumByte x.now.code ++ optField 8 wordBytes x.serial ++ be 1 x.fails
    ++ be 1 x.failLimit ++ enumByte x.cause.code ++ be 4 x.discarded

def LevelReport.bytes (x : LevelReport) : List Byte :=
  be 1 x.slot.val ++ optEnum (x.before.map Level.code) ++ optEnum (x.now.map Level.code) ++ optField 8 wordBytes x.serial
    ++ optNum 4 x.view ++ optNum 4 x.tagRemaining ++ be 4 x.pending ++ optNum 4 x.ratedYield

def PlaneReport.bytes (x : PlaneReport) : List Byte :=
  flag x.usable ++ enumByte x.state.code ++ optEnum (x.level.map Level.code)

def AvailabilityReport.bytes (x : AvailabilityReport) : List Byte :=
  flag x.monoBefore ++ flag x.colourBefore ++ flag x.monoNow ++ flag x.colourNow ++ x.planes.toList.flatMap PlaneReport.bytes

def TamperReport.bytes (x : TamperReport) : List Byte :=
  be 4 x.events ++ be 4 x.erased ++ flag x.sessionEnded ++ x.meter.bytes ++ flag x.latch

/-- The content of a notice. -/
def Notice.content : Notice → List Byte
  | .restart cause erased meter latch => enumByte cause.code ++ be 1 erased ++ meter.bytes ++ flag latch
  | .sessionEnd cause user => enumByte cause.code ++ be 4 user
  | .stageChange _ user old new available => be 4 user ++ enumByte old.code ++ enumByte new.code ++ be 4 available
  | .jobStop job user cause => be 2 job ++ be 4 user ++ enumByte cause.code
  | .jobDone x => x.bytes
  | .colourUnexpected job user => be 2 job ++ be 4 user
  | .streamHalt x => x.bytes
  | .streamDone x => x.bytes
  | .cartridgeState x => x.bytes
  | .tonerLevel x => x.bytes
  | .colourAvailability x => x.bytes
  | .queueOverrun lost meter => be 2 lost ++ meter.bytes
  | .wipeDone cause free => enumByte cause.code ++ be 2 free
  | .tamper x => x.bytes

/-- The width of a notice's subject: two bytes for a job number, one for an account position, a stream or a slot. -/
def Notice.subjectBytes (n : Notice) : List Byte :=
  match n.subject with
  | none => []
  | some x => be (if n.kind = 4 ∨ n.kind = 5 ∨ n.kind = 6 then 2 else 1) x

/-- A notice frame carries class 64 plus the kind number. -/
def Notice.frame (n : Notice) : List Byte := commandFrame (BitVec.ofNat 8 (64 + n.kind)) (n.subjectBytes ++ n.content)

/-! ## The lines -/

/-- The reply waiting in a slot. -/
def Link.replyIn (l : Link) : ReplySlot → Option Reply
  | .request => l.requestSlot
  | .refusal => l.refusalSlot

/-- The frame being sent on CMD TX (R174). -/
def State.cmdTx (s : State) : Option (List Byte) :=
  match s.link.tx with
  | .idle => none
  | .notice n => some n.frame
  | .reply slot => (s.link.replyIn slot).map fun r => commandFrame r.replyClass r.body

/-- SCAN READY of a stream (R149). -/
def State.scanReadyOut (s : State) (i : Fin 4) : Bool := scanReady s.ports (s.stream i) i

/-- CART SELECT of a slot: asserted while its transaction is in progress (R91). -/
def State.cartSelect (s : State) (i : Fin 4) : Bool := (s.cart.transaction.map (·.slot)) == some i

/-- The request the part sends on the cartridge line (R91). -/
def State.cartLine (s : State) : Option (List Byte) := s.cart.transaction.map fun t => t.work.sent

/-- A frame of the image link or the video port: start byte, bytes, check. -/
def portFrame (bytes : List Byte) : List Byte := 165 :: bytes ++ checkBytes (crc bytes)

/-- The half a port is sending, with its header. -/
def State.sendingBand (s : State) (k : StreamKind) : Option (Fin 4 × Bool × BandHeader) :=
  (s.sendingOn k).bind fun x => (((s.stream x.1).half x.2).header).map fun h => (x.1, x.2, h)

/-- The image frame being sent on IMG TX: the header fixed at the grant, the ciphertext and the band tag (R166). -/
def State.imgTx (s : State) : Option (List Byte) :=
  (s.sendingBand .encode).map fun x =>
    let st := s.stream x.1
    portFrame ((x.2.2.image (st.document.getD 0)).bytes ++ s.bandBytes x.1 x.2.1 x.2.2
      ++ wordBytes (((st.half x.2.1).tag).getD 0))

/-- The video frame being sent on VIDEO TX (R167). -/
def State.videoTx (s : State) : Option (List Byte) :=
  (s.sendingBand .release).map fun x =>
    let h := x.2.2
    portFrame (be 2 h.band ++ be 2 h.page ++ [marksOf h.flags] ++ be 1 h.sizeClass ++ be 2 h.length
      ++ s.readHalf (s.stream x.1) x.2.1 h.length)

end Sys2Proof.Machine
end

