-- ==== Sys2Proof/Safety.lean ====
section
/-! DEFINITION. What the manual says holds of the part at all times, as predicates of the state. -/

namespace Sys2Proof.Machine

/-- The pool's bytes are held in the canonical form. -/
def State.MemoryCanonical (s : State) : Prop := s.pool.mem.wf = true

/-- The queue holds at most 32 entries; ENGINE HOLD is asserted at 24 or more and released at 8 or fewer (R62, R65). -/
def State.QueueInRange (s : State) : Prop :=
  s.queue.entries.length ≤ Config.queueSize ∧
  (Config.holdAssert ≤ s.queue.entries.length → s.queue.hold = true) ∧
  (s.queue.entries.length ≤ Config.holdRelease → s.queue.hold = false)

/-- Every setting lies in its range, the stop level not above the caution level (settings table). -/
def Settings.InRange (st : Settings) : Prop :=
  st.caution ≤ 1000000 ∧ st.stop ≤ st.caution ∧ st.hysteresis ≤ 100000 ∧ (10 ≤ st.sessionIdle ∧ st.sessionIdle ≤ 900) ∧
  st.freeCoverage ≤ 4000 ∧ (50 ≤ st.verifyInterval ∧ st.verifyInterval ≤ 5000) ∧ (1 ≤ st.failLimit ∧ st.failLimit ≤ 15) ∧
  (1 ≤ st.recheckPeriod ∧ st.recheckPeriod ≤ 60) ∧ (10 ≤ st.lowMark ∧ st.lowMark ≤ 300) ∧
  (200 ≤ st.streamIdle ∧ st.streamIdle ≤ 30000) ∧ (10 ≤ st.drainLimit ∧ st.drainLimit ≤ 600) ∧
  (1 ≤ st.ownerCap ∧ st.ownerCap ≤ 64)

/-- The notice set holds at most 64 entries and no pair of kind and subject twice (R175). -/
def Link.NoticesInOrder (l : Link) : Prop :=
  l.notices.length ≤ Config.noticeSize ∧ (l.notices.map Notice.key).Nodup

/-- The points charged of every job equal the points drawn plus the points passed to arrears (R41). -/
def JobTable.PointsBalance (t : JobTable) : Prop :=
  ∀ c ∈ t.jobs, c.2.pointsCharged = c.2.pointsDrawn + c.2.pointsArrears

/-- Ranges on the wipe list and bound windows number at most 8 together (R126). -/
def State.WipeReserve (s : State) : Prop := s.pool.wipe.length + boundWindows s.streams ≤ Config.wipeSize

/-- The reject list holds at most 32 serials and none twice; at most 4 snapshots are kept (R104, R106). -/
def CartUnit.ListsInRange (u : CartUnit) : Prop :=
  u.rejectList.length ≤ Config.rejectSize ∧ u.rejectList.Nodup ∧ u.snapshots.length ≤ Config.snapshotSize

/-- Colour availability does not hold without mono availability (R118). -/
def CartUnit.ColourNeedsMono (u : CartUnit) : Prop := u.colour = true → u.mono = true

/-- The balance of an account is at least the total of the holds of its jobs (R41). -/
def State.HoldsCovered (s : State) : Prop := ∀ c ∈ s.accounts, s.totalHolds c.1 ≤ c.2.balance

/-! ## What the end of an event leaves -/

/-- What no grant, no level and no halt changes: accounts, money, jobs, session, tables, settings, meters, documents,
tamper, the entries of the sheet queue, the pool's bytes and wipe list, the reject list and the snapshots. -/
structure State.SameLedger (s t : State) : Prop where
  accounts : t.accounts = s.accounts
  house : t.house = s.house
  session : t.session = s.session
  rates : t.rates = s.rates
  settings : t.settings = s.settings
  jobs : t.jobs = s.jobs
  meters : t.meters = s.meters
  store : t.store = s.store
  tamper : t.tamper = s.tamper
  resetting : t.resetting = s.resetting
  pending : t.pending = s.pending
  entries : t.queue.entries = s.queue.entries
  hold : t.queue.hold = s.queue.hold
  mem : t.pool.mem = s.pool.mem
  wipe : t.pool.wipe = s.pool.wipe
  underReset : t.pool.underReset = s.pool.underReset
  rejectList : t.cart.rejectList = s.cart.rejectList
  snapshots : t.cart.snapshots = s.cart.snapshots

/-- Levels and availabilities are up to date and told, and nothing waits that the cipher unit, the fill engine, the cartridge line
or the sheet queue could take (R66, R90, R116 to R118, R129, R162). -/
structure State.Quiet (s : State) : Prop where
  levels : ∀ i, (s.slot i).levelNow s.settings.lowMark = (s.slot i).level
  moved : ∀ i, s.cart.levelMoved.get i = false
  mono : s.cart.monoNow = s.cart.mono
  colour : s.cart.colourNow = s.cart.colour
  cipher : s.cipher.work.isSome = true ∨ ∀ i, s.eligible i = false
  fill : s.pool.fill.isSome = true ∨ (s.pool.waiting = [] ∧ s.pool.wipe = [])
  line : s.cart.transaction.isSome = true ∨ ∀ i, (s.slot i).grantable = none
  take : s.queue.entries = [] ∨ s.queue.taking = true

/-- The output line is busy, or nothing waits for it (R174). -/
def Link.Quiet (l : Link) : Prop := l.tx ≠ .idle ∨ (l.ready = [] ∧ l.notices = [])

/-- The end of an event has been worked out: nothing waits for a resource that is free (log 17). -/
def State.Settled (s : State) : Prop := s.Quiet ∧ s.link.Quiet

/-- Outside a supply reset every state is settled. -/
def State.SettledOutsideReset (s : State) : Prop := s.resetting = none → s.Settled

/-! ## What relates the records to each other -/

/-- Numbers rise, and every record stands under its own number (R35). -/
def JobTable.InOrder (t : JobTable) : Prop := Table.rising t.jobs = true ∧ ∀ c ∈ t.jobs, c.1 = c.2.number

/-- Accounts stand at rising positions with balances in their range, jobs in order under owners that are present, and every
balance covers the holds of its account's jobs (R1, R2, R34, R41). -/
structure State.MoneySound (s : State) : Prop where
  positions : Table.rising s.accounts = true
  jobs : s.jobs.InOrder
  owners : ∀ c ∈ s.jobs.jobs, (s.account c.2.owner).isSome = true
  balances : ∀ c ∈ s.accounts, c.2.balance ≤ Config.maxMoney
  holds : s.HoldsCovered

/-! ## Streams, windows and jobs -/

/-- A job's bound stream names the job, a stream's job names the stream, kinds agree, no CLOSING job has a stream, and a stream
is IDLE exactly when it has neither kind nor job nor window (R34, R149, R151, R155). -/
structure State.BindingsMatch (s : State) : Prop where
  inOrder : s.jobs.InOrder
  jobs : ∀ n j i, s.job n = some j → j.stream = some i →
    (s.stream i).job = some n ∧ (s.stream i).kind = some j.kind.streamKind ∧ j.kind.usesStore = true ∧ j.state ≠ .closing
  streams : ∀ i n, (s.stream i).job = some n → ∃ j, s.job n = some j ∧ j.stream = some i
  bound : ∀ i, (s.stream i).bound = (s.stream i).kind.isSome ∧ (s.stream i).bound = (s.stream i).job.isSome ∧
    (s.stream i).bound = (s.stream i).window.isSome

/-- The queues, lists, settings and counts of the state lie in their ranges, and the pool's bytes are in canonical form. -/
structure State.InRange (s : State) : Prop where
  memory : s.MemoryCanonical
  queue : s.QueueInRange
  settings : s.settings.InRange
  notices : s.link.NoticesInOrder
  points : s.jobs.PointsBalance
  wipe : s.WipeReserve
  lists : s.cart.ListsInRange
  colour : s.cart.ColourNeedsMono

/-! ## Frames -/

/-- Everything but the link, the jobs, the documents, the pool, the streams, the ports, the cipher unit and the draws is as it
was. -/
structure State.SameBesidesImages (s t : State) : Prop where
  accounts : t.accounts = s.accounts
  house : t.house = s.house
  session : t.session = s.session
  rates : t.rates = s.rates
  settings : t.settings = s.settings
  queue : t.queue = s.queue
  meters : t.meters = s.meters
  cart : t.cart = s.cart
  tamper : t.tamper = s.tamper
  resetting : t.resetting = s.resetting
  pending : t.pending = s.pending

/-- Every byte outside `n` bytes from address `a` reads as before. -/
def Memory.SameOutside (m m' : Memory) (a n : Nat) : Prop := ∀ k, k < a ∨ a + n ≤ k → m'.read k = m.read k

/-- The half of a stream's window lies in the pool (R124). -/
def Stream.HalfInPool (st : Stream) (b : Bool) : Prop := st.halfAddress b + st.halfSize ≤ Machine.poolBytes

/-! ## Words for statements about commands -/

/-- The link interface can take a request: no supply reset is in progress and the request slot is empty (R172, R180). -/
def State.Serving (s : State) : Prop := s.resetting = none ∧ s.link.requestSlot = none

/-- The command is answered OK with the fields given, from state `s`, and the event ends. -/
def State.answersOk (s : State) (cls : Byte) (fields : List Byte) : Answered :=
  .next (s.reply cls (Status.ok.code :: fields)).finish

/-- The command is refused with a status from state `s`, and the event ends. -/
def State.answersNo (s : State) (cls : Byte) (status : Status) : Answered := .next (s.reply cls [status.code]).finish

/-- The session's idle timer at zero. -/
def State.used (s : State) (se : Session) : State := s.setSession (some { se with idle := 0 })

/-- Of checks taken in order, the first that applies gives the answer (R38, R125): each row's answer holds where its condition
does and no earlier one. -/
def firstApplies : List (Prop × Status) → (Status → Prop) → Prop
  | [], _ => True
  | (c, st) :: rest, answered => (c → answered st) ∧ (¬c → firstApplies rest answered)

end Sys2Proof.Machine
end

