-- ==== Sys2Proof/Certificates/Slice0/Obligations.lean ====
section
/-! DEFINITION. The statements for the provers. A next state is written `u.finish`, where `u` is what the command's own rule
makes of the state and `finish` what the part then does by itself (log 17); what `finish` may touch is stated on its own. -/

open Sys2Proof Sys2Proof.Machine

/-! ## Steps -/

/-- A step runs the command at the front of the queue on the state with the queue's rest. -/
def Obligations.StepRunsFrontCommand : Prop :=
  ∀ (c : Instr) (rest : List Instr) (s : State), step (s.setPending (c :: rest)) = exec c (s.setPending rest)

/-- The model's own choice (log 4): a step on an empty queue is one tick. Outside a supply reset every running timer advances
by 1 ms and exactly the expiries due join the queue: of the session, the drains, the recheck, flush and stream idle timers and the
answer of the transaction; nothing else changes, and in a supply reset nothing does. -/
def Obligations.EmptyQueueIsOneTick : Prop :=
  ∀ s : State, s.pending = [] → ∃ t, step s = .next t ∧
    (s.resetting.isSome = true → t = s) ∧
    (s.resetting = none →
      t.session = s.session.map (fun se => { se with idle := se.idle + 1 }) ∧
      t.jobs = { s.jobs with jobs := s.jobs.jobs.map fun c => (c.1, { c.2 with drain := c.2.drain.map (· + 1) }) } ∧
      (∀ i, t.slot i = { s.slot i with recheck := (s.slot i).recheck.map (· + 1), flush := (s.slot i).flush.map (· + 1) }) ∧
      (∀ i, t.stream i = { s.stream i with idle := (s.stream i).idle.map (· + 1) }) ∧
      t.cart.transaction = s.cart.transaction.map (fun x => { x with elapsed := x.elapsed + 1 }) ∧
      t.cart.lastServed = s.cart.lastServed ∧ t.cart.rejectList = s.cart.rejectList ∧
      t.cart.snapshots = s.cart.snapshots ∧ t.cart.mono = s.cart.mono ∧ t.cart.colour = s.cart.colour ∧
      t.cart.levelMoved = s.cart.levelMoved ∧ t.link = s.link ∧ t.accounts = s.accounts ∧ t.house = s.house ∧
      t.rates = s.rates ∧ t.settings = s.settings ∧
      t.queue = s.queue ∧ t.meters = s.meters ∧ t.pool = s.pool ∧ t.ports = s.ports ∧ t.cipher = s.cipher ∧
      t.store = s.store ∧ t.tamper = s.tamper ∧ t.resetting = none ∧ t.draws = s.draws ∧
      ∀ c : Instr, c ∈ t.pending ↔
        (c = .sessionIdleExpiry ∧ ∃ se, s.session = some se ∧ s.settings.sessionIdle * 1000 ≤ se.idle + 1) ∨
        (∃ x ∈ s.jobs.jobs, ∃ n, x.2.drain = some n ∧ s.settings.drainLimit * 1000 ≤ n + 1 ∧ c = .drainExpiry x.2.number) ∨
        (∃ i n, (s.slot i).recheck = some n ∧ s.settings.recheckPeriod * 1000 ≤ n + 1 ∧ c = .recheckExpiry i) ∨
        (∃ i n, (s.slot i).flush = some n ∧ 2000 ≤ n + 1 ∧ c = .flushExpiry i) ∨
        (∃ i n, (s.stream i).idle = some n ∧ s.settings.streamIdle ≤ n + 1 ∧ c = .streamIdleExpiry i) ∨
        (c = .cartAnswerTimeout ∧ ∃ x, s.cart.transaction = some x ∧ 25 ≤ x.elapsed + 1))

/-- What the end of an event leaves, in the form the model gives it (log 17): the ledger as it was; of each slot every field but
its level and its requests; of each stream every field but what a grant or a halt moves, and no halt but of a RELEASE stream in HOLD
or FLOW with cause TONER (R86, R121, R149, R162, R168). -/
def Obligations.EndOfEventKeepsRecords : Prop :=
  ∀ s : State, s.SameLedger s.finish ∧
    (∀ i, let st := s.stream i
      let after := s.finish.stream i
      after = { st with state := after.state, haltCause := after.haltCause, idle := after.idle, half0 := after.half0,
                        half1 := after.half1, output := after.output, nextBand := after.nextBand, page := after.page } ∧
      (after.state = st.state ∧ after.haltCause = st.haltCause ∧ after.idle = st.idle ∧
          (st.kind ≠ some .encode → after.nextBand = st.nextBand ∧ after.page = st.page) ∨
        st.kind = some .release ∧ st.holdOrFlow = true ∧ after.state = .halt ∧ after.haltCause = some .toner ∧
          after.idle = none)) ∧
    (∀ i, let sl := s.slot i
      let after := s.finish.slot i
      after = { sl with level := after.level, requests := after.requests } ∧
      after.level = sl.levelNow s.settings.lowMark)

/-! ## The command link (chapter 11) -/

/-- A frame or a SHEET or JOB_END record laid out as its table says is received whole and good, and gives back what was put in
(R60, R61, R170, R171). -/
def Obligations.FramesReadBack : Prop :=
  (∀ (cls : Byte) (body : List Byte), body.length ≤ 2040 →
    ∃ covered, receiveCommand (goodLine (commandFrame cls body)) = .complete covered true ∧
      classAndBody covered = some (cls, body)) ∧
  ((∀ r : SheetRecord, r.tag < 65536 → r.sizeClass ≤ 7 →
    (∀ d, d = r.side1 ∨ r.side2 = some d → d.k < 16777216 ∧ d.c < 16777216 ∧ d.m < 16777216 ∧ d.y < 16777216) →
    arrivalEntry (goodLine (engineRecord r.fields)) = some (.sheet r)) ∧
  (∀ tag, tag < 65536 → arrivalEntry (goodLine (engineRecord (2 :: be 2 tag))) = some (.jobEnd tag)))

/-- A broken frame, one with a bad check, or a gap inside a frame: FRAME_ERROR with class 128 when the request slot is empty,
else one more discarded frame. A good frame while the request slot is occupied is not acted on: BUSY under its class plus 128
in the empty refusal slot, else one more discarded frame (R172, R173). -/
def Obligations.UnservedFramesAreAnswered : Prop :=
  (∀ (s : State) (line : List LineByte), s.resetting = none →
    let answered : Answered :=
      if s.link.requestSlot = none then
        .next (s.setLink { s.link with
          requestSlot := some { replyClass := 128, body := [2] }, ready := s.link.ready ++ [.request] }).finish
      else .next (s.setLink { s.link with discarded := min 65535 (s.link.discarded + 1) }).finish
    ((receiveCommand line = .broken ∨ ∃ covered, receiveCommand line = .complete covered false) →
      exec (.frameError line) s = answered ∧ exec (.frameWhileSlotOccupied line) s = answered) ∧
    (receiveCommand line = .partly → exec (.cmdGapExpiry line) s = answered)) ∧
  (∀ (s : State) (cls : Byte) (body : List Byte) (covered : List Byte) (line : List LineByte), s.resetting = none →
    s.link.requestSlot.isSome = true → cls.toNat < 128 →
    receiveCommand line = .complete covered true → classAndBody covered = some (cls, body) →
    exec (.frameWhileSlotOccupied line) s =
      .next (s.setLink (if s.link.refusalSlot = none then
          { s.link with refusalSlot := some { replyClass := cls + 128, body := [1] }, ready := s.link.ready ++ [.refusal] }
        else { s.link with discarded := min 65535 (s.link.discarded + 1) })).finish)

/-- The frame on CMD TX has been sent: the slot it came from empties, the line is free, and the arbiter grants the reply that
became ready first, else the oldest notice, which leaves the notice set (R172, R174). -/
def Obligations.OutputLineTakesRepliesFirst : Prop :=
  ∀ s : State, s.resetting = none → s.link.tx ≠ .idle →
    exec .cmdTxSendComplete s = .next (s.setLink { s.link with
      tx := .idle
      requestSlot := if s.link.tx = .reply .request then none else s.link.requestSlot
      refusalSlot := if s.link.tx = .reply .refusal then none else s.link.refusalSlot }).finish ∧
    (∀ l : Link, l.tx = .idle →
      (∀ r rest, l.ready = r :: rest → l.arbitrate = { l with tx := .reply r, ready := rest }) ∧
      (∀ n rest, l.ready = [] → l.notices = n :: rest → l.arbitrate = { l with tx := .notice n, notices := rest }))

/-- A posting: a pair already held keeps its place and no other entry changes; a new pair joins at the end; with 64 held it is
dropped and counted (R175). -/
def Obligations.PostingKeepsOrder : Prop :=
  ∀ (l : Link) (n : Notice),
    ((∃ h ∈ l.notices, h.key = n.key) →
      (l.post n).notices.map Notice.key = l.notices.map Notice.key ∧ (l.post n).lostNotices = l.lostNotices ∧
      ∀ h ∈ l.notices, h.key ≠ n.key → h ∈ (l.post n).notices) ∧
    ((∀ h ∈ l.notices, h.key ≠ n.key) → l.notices.length < 64 →
      (l.post n).notices = l.notices ++ [n] ∧ (l.post n).lostNotices = l.lostNotices) ∧
    ((∀ h ∈ l.notices, h.key ≠ n.key) → 64 ≤ l.notices.length →
      (l.post n).notices = l.notices ∧ (l.post n).lostNotices = min 65535 (l.lostNotices + 1))

/-- RATE READ, QUEUE READ, METER READ, SLOT READ, POOL READ, SETTING READ and STATUS READ need no session: they answer OK with
what their rules name, and on a quiet state nothing but the link changes; JOB READ and STREAM READ answer with the record, or
RANGE when nothing has the number (R23, R55, R72, R84, R107, R134, R156, R177, R178). -/
def Obligations.OpenReadsChangeNothing : Prop :=
  (∀ s : State, s.Serving →
    exec (.rateRead []) s = s.answersOk 140 s.ratesReply ∧
    exec (.queueRead []) s = s.answersOk 145 s.queueReply ∧
    exec (.meterRead []) s = s.answersOk 146
      ((s.meters.toList.flatMap fun m => packedDigits m.value ++ [if m.full then 1 else 0])
        ++ [BitVec.ofNat 8 (s.meters.toList.countP fun m => m.full)]) ∧
    exec (.slotRead []) s = s.answersOk 147 s.slotsReply ∧
    exec (.poolRead []) s = s.answersOk 150 s.poolReply ∧
    exec (.settingRead []) s = s.answersOk 161 s.settings.bytes ∧
    exec (.statusRead []) s = s.answersOk 162 s.statusReply ∧
    (s.Quiet → ∀ cls fields, s.answersOk cls fields = .next (s.setLink
      ((s.link.placeReply { replyClass := cls, body := 0 :: fields }).arbitrate)))) ∧
  (∀ s : State, s.Serving →
    (∀ n, n < 65536 →
      (∀ j, s.job n = some j → exec (.jobRead (be 2 n)) s = s.answersOk 144 (s.jobReply j)) ∧
      (s.job n = none → exec (.jobRead (be 2 n)) s = s.answersNo 144 .range)) ∧
    (∀ n : Nat, n < 256 →
      (∀ i : Fin 4, i.val = n → exec (.streamRead (be 1 n)) s = s.answersOk 156 (s.streamReply i)) ∧
      (4 ≤ n → exec (.streamRead (be 1 n)) s = s.answersNo 156 .range)))

/-- A body that its layout does not spell is MALFORMED, for each of the 35 requests, whatever the session. Without admin
authority every admin request is NOT_PERMITTED, without a session every request that acts for its account NO_SESSION; none of them changes anything
(R5, R37, R143, R144, R151, R173). Two answers are the model's own deductions: an ACCOUNT CHANGE that finds the session NONE is
NOT_PERMITTED by R5, though R16 says that it still applies its state change (log 38), and a SCAN or BOX_PRINT open without a
session is NO_SESSION by R37 with the tamper latch set too, though R147 says TAMPERED (log 42). -/
def Obligations.RequestsAreCheckedFirst : Prop :=
  (∀ (s : State) (b : List Byte), s.Serving →
    (parseLogin b = none → exec (.login b) s = s.answersNo 129 .malformed) ∧
    (b ≠ [] →
      exec (.logout b) s = s.answersNo 130 .malformed ∧
      exec (.touch b) s = s.answersNo 131 .malformed ∧
      exec (.rateRead b) s = s.answersNo 140 .malformed ∧
      exec (.queueRead b) s = s.answersNo 145 .malformed ∧
      exec (.meterRead b) s = s.answersNo 146 .malformed ∧
      exec (.slotRead b) s = s.answersNo 147 .malformed ∧
      exec (.snapshotRead b) s = s.answersNo 148 .malformed ∧
      exec (.poolRead b) s = s.answersNo 150 .malformed ∧
      exec (.documentList b) s = s.answersNo 158 .malformed ∧
      exec (.tamperClear b) s = s.answersNo 159 .malformed ∧
      exec (.settingRead b) s = s.answersNo 161 .malformed ∧
      exec (.statusRead b) s = s.answersNo 162 .malformed ∧
      exec (.factoryClear b) s = s.answersNo 163 .malformed) ∧
    (parseAccountAdd b = none → exec (.accountAdd b) s = s.answersNo 132 .malformed) ∧
    (parseAccountChange b = none → exec (.accountChange b) s = s.answersNo 133 .malformed) ∧
    (b.length ≠ 4 →
      exec (.accountUnlock b) s = s.answersNo 134 .malformed ∧
      exec (.accountRemove b) s = s.answersNo 135 .malformed ∧
      exec (.accountRead b) s = s.answersNo 137 .malformed) ∧
    (parseCredit b = none → exec (.credit b) s = s.answersNo 136 .malformed) ∧
    (parseRateSet b = none → exec (.rateSet b) s = s.answersNo 138 .malformed) ∧
    (parseAreaSet b = none → exec (.areaSet b) s = s.answersNo 139 .malformed) ∧
    (parseRateQuote b = none → exec (.rateQuote b) s = s.answersNo 141 .malformed) ∧
    (parseJobOpen b = none → exec (.jobOpen b) s = s.answersNo 142 .malformed) ∧
    (b.length ≠ 2 →
      exec (.jobClose b) s = s.answersNo 143 .malformed ∧
      exec (.jobRead b) s = s.answersNo 144 .malformed ∧
      exec (.documentErase b) s = s.answersNo 157 .malformed) ∧
    (b.length ≠ 8 → exec (.rejectRemove b) s = s.answersNo 149 .malformed) ∧
    (parseStreamBind b = none → exec (.streamBind b) s = s.answersNo 151 .malformed) ∧
    (b.length ≠ 1 →
      exec (.streamFlow b) s = s.answersNo 152 .malformed ∧
      exec (.streamHold b) s = s.answersNo 153 .malformed ∧
      exec (.streamClear b) s = s.answersNo 154 .malformed ∧
      exec (.streamRelease b) s = s.answersNo 155 .malformed ∧
      exec (.streamRead b) s = s.answersNo 156 .malformed) ∧
    (parseSettingSet b = none → exec (.settingSet b) s = s.answersNo 160 .malformed)) ∧
  (∀ s : State, s.Serving → s.isAdmin = false →
    (∀ b, (parseAccountAdd b).isSome = true → exec (.accountAdd b) s = s.answersNo 132 .notPermitted) ∧
    (∀ b, (parseAccountChange b).isSome = true → exec (.accountChange b) s = s.answersNo 133 .notPermitted) ∧
    (∀ b, b.length = 4 → exec (.accountUnlock b) s = s.answersNo 134 .notPermitted) ∧
    (∀ b, b.length = 4 → exec (.accountRemove b) s = s.answersNo 135 .notPermitted) ∧
    (∀ b, (parseCredit b).isSome = true → exec (.credit b) s = s.answersNo 136 .notPermitted) ∧
    (∀ b, (parseRateSet b).isSome = true → exec (.rateSet b) s = s.answersNo 138 .notPermitted) ∧
    (∀ b, (parseAreaSet b).isSome = true → exec (.areaSet b) s = s.answersNo 139 .notPermitted) ∧
    exec (.snapshotRead []) s = s.answersNo 148 .notPermitted ∧
    (∀ b, b.length = 8 → exec (.rejectRemove b) s = s.answersNo 149 .notPermitted) ∧
    exec (.tamperClear []) s = s.answersNo 159 .notPermitted ∧
    (∀ b, (parseSettingSet b).isSome = true → exec (.settingSet b) s = s.answersNo 160 .notPermitted) ∧
    exec (.factoryClear []) s = s.answersNo 163 .notPermitted) ∧
  (∀ s : State, s.Serving → s.session = none →
    exec (.logout []) s = s.answersNo 130 .noSession ∧
    exec (.touch []) s = s.answersNo 131 .noSession ∧
    (∀ b, b.length = 4 → exec (.accountRead b) s = s.answersNo 137 .noSession) ∧
    (∀ b r, parseJobOpen b = some r → r.kind ≠ .print → exec (.jobOpen b) s = s.answersNo 142 .noSession) ∧
    (∀ b, (parseStreamBind b).isSome = true → exec (.streamBind b) s = s.answersNo 151 .noSession) ∧
    (∀ b, b.length = 2 → exec (.documentErase b) s = s.answersNo 157 .noSession) ∧
    exec (.documentList []) s = s.answersNo 158 .noSession)

/-! ## Accounts and the session (chapter 01) -/

/-- An accepted LOGIN: the failure count becomes 0 and the session is OPEN on the account's position with its idle timer at zero;
a second LOGIN is SESSION_BUSY. A wrong or missing PIN raises the count: BAD_PIN below five, and the fifth locks the account
(R14). -/
def Obligations.LoginChecksThePin : Prop :=
  (∀ (s : State) (b : List Byte) (r : LoginRequest) (p : Nat) (a : Account), s.Serving → parseLogin b = some r →
    (s.session.isSome = true → exec (.login b) s = s.answersNo 129 .sessionBusy) ∧
    (s.session = none → (r.user = 0 ∨ 99999999 < r.user ∨ s.findUser r.user = none) →
      exec (.login b) s = s.answersNo 129 .noAccount) ∧
    (s.session = none → 1 ≤ r.user → r.user ≤ 99999999 → s.findUser r.user = some (p, a) →
      (a.state = .suspended → exec (.login b) s = s.answersNo 129 .suspended) ∧
      (a.state = .locked → exec (.login b) s = s.answersNo 129 .locked)) ∧
    (∀ (user : Nat) (len : Byte) (digits : List Byte), digits.length = 8 →
      (8 < len.toNat ∨ ∃ d ∈ digits.take len.toNat, 9 < d.toNat) →
      exec (.login (be 4 user ++ len :: digits)) s = s.answersNo 129 .malformed) ∧
    (s.session = none → 1 ≤ r.user → r.user ≤ 99999999 → s.findUser r.user = some (p, a) → a.state = .active →
      (a.pin = none ∨ a.pin = some r.pin) →
      exec (.login b) s =
        ((s.changeAccount p fun a => { a with failures := 0 }).setSession (some { position := p, idle := 0 })).answersOk 129
          (be 1 a.role.code ++ be 1 a.stage.code ++ be 4 (s.available p)))) ∧
  (∀ (s : State) (b : List Byte) (r : LoginRequest) (p : Nat) (a : Account) (pin : List Byte), s.Serving →
    parseLogin b = some r → s.session = none → 1 ≤ r.user → r.user ≤ 99999999 → s.findUser r.user = some (p, a) →
    a.state = .active → a.pin = some pin → r.pin ≠ pin →
    (a.failures + 1 < 5 → exec (.login b) s =
      .next ((s.changeAccount p Account.pinFailed).reply 129 [12]).finish ∧ a.pinFailed = { a with failures := a.failures + 1 }) ∧
    (5 ≤ a.failures + 1 → exec (.login b) s =
      .next ((s.changeAccount p Account.pinFailed).reply 129 [11]).finish ∧
        a.pinFailed = { a with failures := 5, state := .locked }))

/-- TOUCH, ACCOUNT READ, SNAPSHOT READ and DOCUMENT LIST answer OK to those who may ask, and change nothing but the session idle
timer, which restarts. An ACCOUNT READ of another's number without admin authority is NOT_PERMITTED and restarts nothing; an
admin's is RANGE above 99,999,999 and NO_ACCOUNT for a number that no account holds (R1, R12, R15, R106, R144). -/
def Obligations.SessionReadsChangeOnlyTheTimer : Prop :=
  (∀ (s : State) (se : Session), s.Serving → s.session = some se →
    exec (.touch []) s = (s.setSession (some { position := se.position, idle := 0 })).answersOk 131 []) ∧
  (∀ (s : State) (se : Session), s.Serving → s.session = some se →
    (∀ user p a, 1 ≤ user → user ≤ 99999999 → s.findUser user = some (p, a) →
      (s.isAdmin = true ∨ (s.account se.position).map (·.userNumber) = some user) →
      exec (.accountRead (be 4 user)) s = (s.used se).answersOk 137 (s.accountReply p a)) ∧
    (s.isAdmin = true → exec (.accountRead (be 4 0)) s = (s.used se).answersOk 137 s.house.bytes) ∧
    (∀ user, user < 4294967296 → s.isAdmin = false → (s.account se.position).map (·.userNumber) ≠ some user →
      exec (.accountRead (be 4 user)) s = s.answersNo 137 .notPermitted) ∧
    (∀ user, user < 4294967296 → s.isAdmin = true →
      (99999999 < user → exec (.accountRead (be 4 user)) s = (s.used se).answersNo 137 .range) ∧
      (1 ≤ user → user ≤ 99999999 → s.findUser user = none →
        exec (.accountRead (be 4 user)) s = (s.used se).answersNo 137 .noAccount)) ∧
    (s.isAdmin = true → exec (.snapshotRead []) s = (s.used se).answersOk 148 s.snapshotsReply) ∧
    exec (.documentList []) s = (s.used se).answersOk 158 (s.documentsReply se))

/-- LOGOUT and the idle expiry, the latter also while a reply waits, end the session and post SESSION_END: no BOX_PRINT job of its
account stays OPEN or RUNNING, every RELEASE stream in HOLD or FLOW on a job of the account halts with cause SESSION_END, every other
stream and every job of another kind or owner is untouched, and no money, document, meter or byte of the pool changes
(R15, R16, R17). -/
def Obligations.SessionEndStopsReleases : Prop :=
  ∀ (s : State) (se : Session), s.resetting = none → s.session = some se → s.jobs.InOrder →
    ∀ (cause : SessionEndCause), cause = .logout ∧ s.link.requestSlot = none ∨ cause = .idle →
    let told := Notice.sessionEnd cause (s.userNumber se.position)
    ∃ u : State,
      (cause = .logout → exec (.logout []) s = u.answersOk 130 []) ∧
      (cause = .idle → exec .sessionIdleExpiry s = .next u.finish) ∧
      u.session = none ∧
      (s.link.notices.length < 64 ∨ (∃ h ∈ s.link.notices, h.key = told.key) → told ∈ u.link.notices) ∧
      (∀ n j, s.job n = some j → j.owner = se.position → j.kind = .boxPrint → j.active = true →
        u.job n = some { j with state := .stopping, stopCause := some .sessionEnd }) ∧
      (∀ n j, s.job n = some j → j.owner ≠ se.position ∨ j.kind ≠ .boxPrint ∨ j.active = false → u.job n = some j) ∧
      (∀ i n j, (s.stream i).kind = some .release → (s.stream i).holdOrFlow = true → (s.stream i).job = some n →
        s.job n = some j → j.owner = se.position →
        (u.stream i).state = .halt ∧ (u.stream i).haltCause = some .sessionEnd) ∧
      (∀ i, (s.stream i).holdOrFlow = false → u.stream i = s.stream i) ∧
      (s.BindingsMatch → ∀ i, (s.stream i).kind ≠ some .release ∨
          (∀ n j, (s.stream i).job = some n → s.job n = some j → j.owner ≠ se.position) → u.stream i = s.stream i) ∧
      u.accounts = s.accounts ∧ u.house = s.house ∧ u.rates = s.rates ∧ u.settings = s.settings ∧ u.meters = s.meters ∧
      u.queue = s.queue ∧ u.cart = s.cart ∧ u.store = s.store ∧ u.tamper = s.tamper ∧ u.pool.mem = s.pool.mem ∧
      u.pool.wipe = s.pool.wipe

/-- An accepted ACCOUNT ADD: the account stands at the lowest free position with the fields given, ACTIVE, all amounts and counters
zero, its stage computed without hysteresis. ACCOUNT REMOVE of an account with no job and no session, not the only ADMIN: its
documents leave the store and its position becomes free (R6, R10). -/
def Obligations.AccountsComeAndGo : Prop :=
  (∀ (s : State) (se : Session) (b : List Byte) (r : AddRequest) (pin : Option (List Byte)) (p : Nat), s.Serving →
    s.session = some se → s.isAdmin = true → parseAccountAdd b = some r → 1 ≤ r.user → r.user ≤ 99999999 →
    (r.pin = .absent ∧ pin = none ∨ ∃ d, r.pin = .digits d ∧ pin = some d) → s.findUser r.user = none →
    1 ≤ p → p ≤ 192 → s.account p = none → (∀ q, 1 ≤ q → q < p → (s.account q).isSome = true) →
    exec (.accountAdd b) s = ((s.used se).setAccounts (Table.put s.accounts p
      { userNumber := r.user, role := r.role, state := .active, pin := pin, failures := 0, colourRight := r.colourRight,
        boxRight := r.boxRight, balance := 0, arrears := 0,
        stage := if s.settings.caution ≤ 0 then .full else if s.settings.stop ≤ 0 then .limited else .stopped,
        counters := {} })).answersOk 132 [BitVec.ofNat 8 p]) ∧
  (∀ (s : State) (se : Session) (user p : Nat) (a : Account), s.Serving → s.session = some se → s.isAdmin = true →
    1 ≤ user → user ≤ 99999999 → s.findUser user = some (p, a) → s.onlyAdmin p = false →
    ((s.jobsOf p = [] ∧ se.position ≠ p) → exec (.accountRemove (be 4 user)) s =
      (((s.used se).setStore { s.store with docs := s.store.docs.filter fun d => d.owner != p }).setAccounts
        (s.accounts.filter fun c => c.1 != p)).answersOk 135
          [BitVec.ofNat 8 ((s.store.docs.filter fun d => d.owner == p).length)]) ∧
    ((s.jobsOf p ≠ [] ∨ se.position = p) → exec (.accountRemove (be 4 user)) s = (s.used se).answersNo 135 .inUse))

/-- An accepted ACCOUNT CHANGE replaces role, state, rights and PIN and adjusts the failure count; a state other than ACTIVE on
the session's own account also ends the session. ACCOUNT UNLOCK makes a LOCKED or ACTIVE account ACTIVE with no failures, and
refuses a SUSPENDED one (R7, R8, R9). -/
def Obligations.AccountChangeReplacesFields : Prop :=
  (∀ (s : State) (se : Session) (b : List Byte) (r : ChangeRequest) (p : Nat) (a : Account) (pin : Option (List Byte)), s.Serving →
    s.session = some se → s.isAdmin = true → parseAccountChange b = some r → 1 ≤ r.user → r.user ≤ 99999999 →
    s.findUser r.user = some (p, a) → (s.onlyAdmin p = false ∨ r.role = .admin) →
    (r.action = .keep ∧ pin = a.pin ∨ r.action = .remove ∧ pin = none ∨ ∃ d, r.action = .set (.digits d) ∧ pin = some d) →
    let u := (s.used se).changeAccount p fun x => { x with
      role := r.role, state := r.state, colourRight := r.colourRight, boxRight := r.boxRight, pin := pin,
      failures := if r.action ≠ .keep ∨ (x.state = .locked ∧ r.state ≠ .locked) then 0 else x.failures }
    (se.position ≠ p ∨ r.state = .active → exec (.accountChange b) s = u.answersOk 133 []) ∧
    (se.position = p → r.state ≠ .active →
      exec (.accountChange b) s = (u.endSession .accountChange).answersOk 133 [] ∧
      (u.endSession .accountChange).session = none)) ∧
  (∀ (s : State) (se : Session) (user p : Nat) (a : Account), s.Serving → s.session = some se → s.isAdmin = true →
    1 ≤ user → user ≤ 99999999 → s.findUser user = some (p, a) →
    (a.state ≠ .suspended → exec (.accountUnlock (be 4 user)) s =
      ((s.used se).changeAccount p fun x => { x with state := .active, failures := 0 }).answersOk 134 [0]) ∧
    (a.state = .suspended → exec (.accountUnlock (be 4 user)) s = (s.used se).answersNo 134 .suspended))

/-- CREDIT: ADD stops at 16,000,000, SUBTRACT at the total of the holds; arrears are cleared when asked; no other account, no
hold, no meter and no document changes (R11). -/
def Obligations.CreditMovesTheBalance : Prop :=
  ∀ (s : State) (se : Session) (b : List Byte) (r : CreditRequest) (p : Nat) (a : Account), s.Serving → s.session = some se →
    s.isAdmin = true → parseCredit b = some r → 1 ≤ r.user → r.user ≤ 99999999 → s.findUser r.user = some (p, a) →
    s.account p = some a →
    ∃ (u : State) (x : Account) (rest : List Byte), exec (.credit b) s = u.answersOk 136 rest ∧ u.account p = some x ∧
      x.balance = (if r.subtract then a.balance - min (min r.amount 16000000) (a.balance - s.totalHolds p)
        else min (a.balance + min r.amount 16000000) 16000000) ∧
      x.arrears = (if r.clearArrears then 0 else a.arrears) ∧
      x.pin = a.pin ∧ x.state = a.state ∧ x.role = a.role ∧ x.counters = a.counters ∧
      (∀ q, q ≠ p → u.account q = s.account q) ∧ (∀ q, u.totalHolds q = s.totalHolds q) ∧
      u.session = some { se with idle := 0 } ∧ u.house = s.house ∧ u.rates = s.rates ∧ u.settings = s.settings ∧
      u.meters = s.meters ∧ u.queue = s.queue ∧ u.cart = s.cart ∧ u.store = s.store ∧ u.pool.mem = s.pool.mem

/-! ## Rates and charges (chapter 02) -/

/-- RATE SET and AREA SET write one entry, rate or area, clamped to its range, and reply with the values before and taken and
the clamped marks (R21, R22). The model's own choice (log 20): for a scan rate the reply carries one value before, one taken and one
mark. -/
def Obligations.RateAndAreaSetClamp : Prop :=
  ∀ (s : State) (se : Session), s.Serving → s.session = some se → s.isAdmin = true →
    (∀ n base step : Nat, n < 32 → base < 65536 → step < 65536 →
      exec (.rateSet (be 1 0 ++ be 1 n ++ be 2 base ++ be 2 step)) s =
        ((s.used se).setRates { s.rates with
          print := s.rates.print.set! n { base := min base 9999, step := min step 999 } }).answersOk 138
          (be 1 0 ++ be 1 n ++ be 2 (s.rates.entry n).base ++ be 2 (s.rates.entry n).step ++ be 2 (min base 9999)
            ++ be 2 (min step 999) ++ flag (9999 < base) ++ flag (999 < step))) ∧
    (∀ n base step : Nat, 32 ≤ n → n < 256 → exec (.rateSet (be 1 0 ++ be 1 n ++ be 2 base ++ be 2 step)) s =
      (s.used se).answersNo 138 .range) ∧
    (∀ (c : Fin 8) (rate step : Nat), rate < 65536 → exec (.rateSet (be 1 1 ++ be 1 c.val ++ be 2 rate ++ be 2 step)) s =
      ((s.used se).setRates { s.rates with scan := s.rates.scan.set c.val (min rate 9999) }).answersOk 138
        (be 1 1 ++ be 1 c.val ++ be 2 (s.rates.scanRate c.val) ++ be 2 (min rate 9999) ++ flag (9999 < rate))) ∧
    (∀ (c : Fin 8) (v : Nat), v < 4294967296 → exec (.areaSet (be 1 c.val ++ be 4 v)) s =
      ((s.used se).setRates { s.rates with area := s.rates.area.set c.val (max 1 (min v 1000000)) }).answersOk 139
        (be 1 c.val ++ be 4 (s.rates.areaOf c.val) ++ be 4 (max 1 (min v 1000000)) ++ flag (v = 0 ∨ 1000000 < v)))

/-- The result of one side: floored and clamped coverages, the colour class from the dot counts, the total, the excess steps,
the entry, and the charge with its ceiling (R26, R27, R28). -/
def Obligations.SideChargeFollowsTheStages : Prop :=
  ∀ (r : Rates) (free size : Nat) (p : SidePosition) (d : Dots), 1 ≤ r.areaOf size →
    let c := sideCharge r free size p d
    let covers (cov dots : Nat) := (cov * r.areaOf size ≤ dots * 1000 ∧ dots * 1000 < (cov + 1) * r.areaOf size ∧ cov ≤ 1000)
      ∨ (cov = 1000 ∧ 1000 * r.areaOf size ≤ dots * 1000)
    covers c.covK d.k ∧ covers c.covC d.c ∧ covers c.covM d.m ∧ covers c.covY d.y ∧
    (c.colourClass = .colour ↔ d.c ≠ 0 ∨ d.m ≠ 0 ∨ d.y ≠ 0) ∧ (c.colourClass = .mono ↔ d.c = 0 ∧ d.m = 0 ∧ d.y = 0) ∧
    c.total = c.covK + c.covC + c.covM + c.covY ∧ c.total ≤ 4000 ∧ (c.colourClass = .mono → c.total ≤ 1000) ∧
    (free < c.total → c.excess * 10 ≤ c.total - free ∧ c.total - free < (c.excess + 1) * 10) ∧ (c.total ≤ free → c.excess = 0) ∧
    c.excess ≤ 400 ∧
    c.entry = 4 * size + (if c.colourClass = .colour then 2 else 0) + (if p = .back then 1 else 0) ∧
    c.base = (r.entry c.entry).base ∧ c.step = (r.entry c.entry).step ∧
    (c.base + c.step * c.excess ≤ 65535 → c.charge = c.base + c.step * c.excess ∧ c.ceiling = false) ∧
    (65535 < c.base + c.step * c.excess → c.charge = 65535 ∧ c.ceiling = true)

/-- RATE QUOTE answers OK with the charge result of the sheet it describes: the first side as FRONT, a second as BACK, the sheet
charge their sum; it settles nothing and changes nothing but the link (R29, R32). -/
def Obligations.RateQuotePricesWithoutSettling : Prop :=
  ∀ (s : State) (b : List Byte) (sheet : SheetRecord), s.Serving → parseRateQuote b = some sheet →
    ∃ c : ChargeResult, exec (.rateQuote b) s = s.answersOk 141 c.bytes ∧
      (sheet.side2 = none →
        c.sides = [sideCharge s.rates s.settings.freeCoverage sheet.sizeClass .front sheet.side1]) ∧
      (∀ d, sheet.side2 = some d →
        c.sides = [sideCharge s.rates s.settings.freeCoverage sheet.sizeClass .front sheet.side1,
                   sideCharge s.rates s.settings.freeCoverage sheet.sizeClass .back d]) ∧
      c.charge = (c.sides.map (·.charge)).sum ∧ c.charge ≤ 131070

/-! ## Jobs and money (chapter 03) -/

/-- An accepted COPY or PRINT open: a new job under a number no job held, OPEN or already STOPPING for CREDIT, with the hold of
R39, SHORT when it was cut; no balance changes. An open that is not accepted is refused by the first check that applies, in the
order of R37 and R38, and changes nothing but the session idle timer, which a COPY open restarts (R35, R37 to R40). -/
def Obligations.CopyAndPrintOpensSetAHold : Prop :=
  (∀ (s : State) (b : List Byte) (r : OpenRequest) (p : Nat) (a : Account), s.Serving → parseJobOpen b = some r →
    (r.kind = .copy ∧ (∃ idle, s.session = some { position := p, idle := idle }) ∨
      r.kind = .print ∧ 1 ≤ r.user ∧ r.user ≤ 99999999 ∧ s.findUser r.user = some (p, a)) →
    s.account p = some a → 1 ≤ r.estimate → r.estimate ≤ 9999 →
    s.jobs.jobs.length < 16 → a.state = .active → a.stage ≠ .stopped →
    (r.colourClass = .colour → a.colourRight = .full ∧ a.stage = .full ∧ s.cart.colour = true) →
    (r.colourClass = .mono → s.cart.mono = true) →
    let asked := min 16000000 (r.estimate * ((s.rates.entry (entryNumber r.sizeClass.val r.colourClass .front)).base +
      if r.duplex then (s.rates.entry (entryNumber r.sizeClass.val r.colourClass .back)).base else 0))
    ∃ (u : State) (n : Nat) (j : Job) (rest : List Byte), exec (.jobOpen b) s = u.answersOk 142 rest ∧
      1 ≤ n ∧ n ≤ 65535 ∧ s.job n = none ∧ u.job n = some j ∧ u.jobs.lastNumber = n ∧
      j.number = n ∧ j.kind = r.kind ∧ j.owner = p ∧ j.sizeClass = r.sizeClass.val ∧ j.colourClass = r.colourClass ∧
      j.duplex = r.duplex ∧ j.initialHold = min asked (s.available p) ∧ j.holdRemaining = j.initialHold ∧
      (j.short = true ↔ s.available p < asked) ∧ j.engineEnded = false ∧ j.sheets = 0 ∧ j.pointsCharged = 0 ∧
      j.pointsDrawn = 0 ∧ j.pointsArrears = 0 ∧ j.stream = none ∧ j.document = none ∧ j.drain = none ∧
      (j.state = .opened ∧ j.stopCause = none ∨ j.state = .stopping ∧ j.stopCause = some .credit) ∧
      (∀ m x, s.job m = some x → ∃ y, u.job m = some y ∧ y.holdRemaining = x.holdRemaining ∧ y.sheets = x.sheets) ∧
      (∀ q, (u.account q).map (·.balance) = (s.account q).map (·.balance)) ∧ u.meters = s.meters ∧ u.store = s.store ∧
      u.rates = s.rates ∧ u.settings = s.settings ∧ u.queue = s.queue ∧ u.cart = s.cart ∧ u.pool.mem = s.pool.mem) ∧
  (∀ (s : State) (b : List Byte) (r : OpenRequest), s.Serving → parseJobOpen b = some r →
    (∀ se, r.kind = .copy → s.session = some se → r.estimate < 1 ∨ 9999 < r.estimate →
      exec (.jobOpen b) s = (s.used se).answersNo 142 .range) ∧
    (r.kind = .print →
      (r.estimate < 1 ∨ 9999 < r.estimate ∨ r.user < 1 ∨ 99999999 < r.user →
        exec (.jobOpen b) s = s.answersNo 142 .range) ∧
      (1 ≤ r.estimate → r.estimate ≤ 9999 → 1 ≤ r.user → r.user ≤ 99999999 → s.findUser r.user = none →
        exec (.jobOpen b) s = s.answersNo 142 .noAccount)) ∧
    (∀ (p : Nat) (a : Account) (kept : State),
      (r.kind = .copy ∧ (∃ idle, s.session = some { position := p, idle := idle }) ∧ kept = s.touchSession ∨
        r.kind = .print ∧ 1 ≤ r.user ∧ r.user ≤ 99999999 ∧ s.findUser r.user = some (p, a) ∧ kept = s) →
      s.account p = some a → 1 ≤ r.estimate → r.estimate ≤ 9999 →
      firstApplies
        [(16 ≤ s.jobs.jobs.length, .tableFull),
         (a.state = .suspended, .suspended),
         (a.state = .locked, .locked),
         (a.stage = .stopped, .noCredit),
         (r.colourClass = .colour ∧ a.colourRight = .mono, .notPermitted),
         (r.colourClass = .colour ∧ a.stage = .limited, .colourLimited),
         (r.colourClass = .colour ∧ s.cart.colour = false ∨ r.colourClass = .mono ∧ s.cart.mono = false, .tonerUnavailable)]
        fun st => exec (.jobOpen b) s = kept.answersNo 142 st))

/-- An accepted SCAN open: the documents that RECYCLE lets go leave the store, and a WRITING document under a fresh key (a free
value, log 7) joins it at the end, bound to the new job. A BOX_PRINT open binds the owner's STORED document, and finds a bound
one IN_USE. Each holds what R39 gives. One that is not accepted is refused by the first check that applies, in the order of R37
and R38, and changes nothing but the session idle timer, which restarts (R37 to R40, R138, R139). -/
def Obligations.DocumentJobsBindTheirDocument : Prop :=
  (∀ (s : State) (b : List Byte) (r : OpenRequest) (p idle : Nat) (a : Account), s.Serving → parseJobOpen b = some r →
    s.jobs.InOrder → r.kind = .scan → s.session = some { position := p, idle := idle } → s.account p = some a →
    1 ≤ r.estimate → r.estimate ≤ 9999 → s.jobs.jobs.length < 16 → s.store.docs.length ≤ 64 → a.state = .active →
    a.stage ≠ .stopped → a.boxRight = true → s.tamper.latch = false →
    let mine := s.store.docs.filter fun d => d.owner == p
    let spare := mine.filter fun d => d.state == .stored && d.job.isNone
    let leave := max (mine.length + 1 - s.settings.ownerCap) (s.store.docs.length - 63)
    (leave = 0 ∨ s.settings.boxPolicy = .recycle ∧ leave ≤ spare.length) →
    ∃ (u : State) (n : Nat) (j : Job) (d : Document) (rest : List Byte), exec (.jobOpen b) s = u.answersOk 142 rest ∧
      s.job n = none ∧ u.job n = some j ∧ j.kind = .scan ∧ j.owner = p ∧ j.document = some d.number ∧ j.state = .opened ∧
      j.initialHold = min (min 16000000 (r.estimate * s.rates.scanRate r.sizeClass.val)) (s.available p) ∧
      j.holdRemaining = j.initialHold ∧
      u.store.docs = (s.store.docs.filter fun x => !((spare.take leave).map (·.number)).contains x.number) ++ [d] ∧
      u.store.lastNumber = d.number ∧ (∀ x ∈ s.store.docs, x.number ∈ (spare.take leave).map (·.number) ∨ x.number ≠ d.number) ∧
      d.owner = p ∧ d.state = .writing ∧ d.key = Config.randomKey s.draws ∧ d.pages = 0 ∧ d.bands = 0 ∧ d.colour = false ∧
      d.sizeClass = r.sizeClass.val ∧ d.job = some n ∧ u.draws = s.draws + 1 ∧
      (∀ q, (u.account q).map (·.balance) = (s.account q).map (·.balance)) ∧ u.meters = s.meters ∧ u.queue = s.queue ∧
      u.cart = s.cart ∧ u.pool.mem = s.pool.mem) ∧
  (∀ (s : State) (b : List Byte) (r : OpenRequest) (p idle : Nat) (a : Account) (d : Document), s.Serving →
    parseJobOpen b = some r → r.kind = .boxPrint → s.session = some { position := p, idle := idle } → s.account p = some a →
    r.document ≠ 0 → s.jobs.jobs.length < 16 → a.state = .active → a.stage ≠ .stopped → a.boxRight = true →
    s.tamper.latch = false → s.document r.document = some d → d.owner = p → d.state = .stored →
    (d.colour = true → a.colourRight = .full ∧ a.stage = .full ∧ s.cart.colour = true) → (d.colour = false → s.cart.mono = true) →
    (d.job.isSome = true → exec (.jobOpen b) s = s.touchSession.answersNo 142 .inUse) ∧
    (d.job = none → ∃ (u : State) (n : Nat) (j : Job) (rest : List Byte), exec (.jobOpen b) s = u.answersOk 142 rest ∧
      s.job n = none ∧ u.job n = some j ∧ j.kind = .boxPrint ∧ j.owner = p ∧ j.document = some r.document ∧
      j.sizeClass = d.sizeClass ∧ j.eraseAfterPrint = r.erase ∧
      j.initialHold = min (min 16000000 (d.pages * (s.rates.entry (entryNumber d.sizeClass
        (if d.colour then .colour else .mono) .front)).base)) (s.available p) ∧
      u.store = { s.store with docs := s.store.docs.map fun x => if x.number = r.document then { x with job := some n } else x } ∧
      (∀ q, (u.account q).map (·.balance) = (s.account q).map (·.balance)) ∧ u.meters = s.meters ∧ u.cart = s.cart ∧
      u.pool.mem = s.pool.mem)) ∧
  (∀ (s : State) (b : List Byte) (r : OpenRequest) (p idle : Nat) (a : Account), s.Serving → parseJobOpen b = some r →
    r.kind = .scan ∨ r.kind = .boxPrint → s.session = some { position := p, idle := idle } → s.account p = some a →
    let colour := r.kind = .boxPrint ∧ ∃ d, s.document r.document = some d ∧ d.owner = p ∧ d.colour = true
    let mine := s.store.docs.filter fun d => d.owner == p
    let spare := mine.filter fun d => d.state == .stored && d.job.isNone
    let leave := max (mine.length + 1 - s.settings.ownerCap) (s.store.docs.length - 63)
    firstApplies
      [(r.kind = .scan ∧ (r.estimate < 1 ∨ 9999 < r.estimate) ∨ r.kind = .boxPrint ∧ r.document = 0, .range),
       (16 ≤ s.jobs.jobs.length, .tableFull),
       (a.state = .suspended, .suspended),
       (a.state = .locked, .locked),
       (a.stage = .stopped, .noCredit),
       (colour ∧ a.colourRight = .mono, .notPermitted),
       (colour ∧ a.stage = .limited, .colourLimited),
       (colour ∧ s.cart.colour = false ∨ r.kind = .boxPrint ∧ ¬colour ∧ s.cart.mono = false, .tonerUnavailable),
       (a.boxRight = false, .notPermitted),
       (s.tamper.latch = true, .tampered),
       (r.kind = .scan ∧ leave ≠ 0 ∧ (s.settings.boxPolicy = .keep ∨ spare.length < leave), .storeFull),
       (r.kind = .boxPrint ∧ (∀ d, s.document r.document = some d → d.owner = p → d.state ≠ .stored), .noDocument),
       (r.kind = .boxPrint ∧ (∃ d, s.document r.document = some d ∧ d.job.isSome = true), .inUse)]
      fun st => exec (.jobOpen b) s = s.touchSession.answersNo 142 st)

/-- JOB CLOSE of a number that names no job is RANGE, of a CLOSING job BUSY, and BUSY of one whose stream is in FLOW or has a half in
the cipher unit or being sent; none of them changes anything. Of any other job: its stream is unbound and the window joins the wipe
list; a SCAN job, or another with its engine-ended mark set, leaves the table; else the job is CLOSING with its drain timer at
zero (R49, R50, R51). The model's own choice (log 20): the reply gives a removed job's state as number 4. -/
def Obligations.JobCloseEndsOrDrains : Prop :=
  (∀ (s : State) (n : Nat), s.Serving → n < 65536 → s.job n = none →
    exec (.jobClose (be 2 n)) s = s.answersNo 143 .range) ∧
  (∀ (s : State) (n : Nat) (j : Job), s.Serving → n < 65536 → s.jobs.InOrder → s.job n = some j →
    (j.state = .closing → exec (.jobClose (be 2 n)) s = s.answersNo 143 .busy) ∧
    (∀ i b, j.state ≠ .closing → j.stream = some i →
      (s.stream i).state = .flow ∨ ((s.stream i).half b).state = .cipher ∨ ((s.stream i).half b).state = .sending →
      exec (.jobClose (be 2 n)) s = s.answersNo 143 .busy) ∧
    (j.state ≠ .closing → (∀ i, j.stream = some i → (s.stream i).state ≠ .flow ∧ (s.stream i).inHand = false) →
      ∃ u : State, ∃ code : Byte, exec (.jobClose (be 2 n)) s = u.answersOk 143 (code :: (be 4 j.sheets ++ be 8 j.pointsCharged)) ∧
        (∀ i, j.stream = some i → u.stream i = {} ∧
          u.pool.wipe = s.pool.wipe ++ ((s.stream i).window.map Window.range).toList) ∧
        (j.kind = .scan ∨ j.engineEnded = true → u.job n = none ∧ code = 4) ∧
        (j.kind ≠ .scan → j.engineEnded = false → u.store = s.store ∧ code = 3 ∧
          ∃ k, u.job n = some k ∧ { k with stream := none } = { j with stream := none, state := .closing, drain := some 0 } ∧
            ∀ i, j.stream = some i → (s.stream i).job = some n → k.stream = none) ∧
        (j.kind = .scan → j.scanComplete = true → ∀ d, j.document = some d →
          u.store.docs = s.store.docs.map fun x => if x.number = d then { x with state := .stored, job := none } else x) ∧
        (j.kind = .scan → j.scanComplete = false → ∀ d, j.document = some d →
          u.store.docs = s.store.docs.filter fun x => x.number != d) ∧
        (∀ q, (u.account q).map (·.balance) = (s.account q).map (·.balance)) ∧ u.meters = s.meters ∧ u.queue = s.queue ∧
        u.cart = s.cart ∧ u.pool.mem = s.pool.mem))

/-- A JOB_END at the head sets the engine-ended mark of a COPY, PRINT or BOX_PRINT job that is not CLOSING and removes one that
is, and is otherwise ignored; the entry leaves the queue. A drain expiry removes a CLOSING job with a summary marked UNSETTLED,
releasing its hold; a BOX_PRINT job's document is erased when the flag asks for it and a sheet was settled, and otherwise
unbound (R52, R53, R54, R66, R71). -/
def Obligations.JobsLeaveTheTable : Prop :=
  (∀ (s : State) (tag : Nat) (rest : List QueueEntry), s.resetting = none → s.jobs.InOrder → s.queue.taking = true →
    s.queue.entries = .jobEnd tag :: rest →
    ∃ u : State, exec .takeJobEnd s = .next u.finish ∧
      u.queue = { entries := rest, taking := false, hold := s.queue.hold && decide (rest.length ≠ 8) } ∧
      (tag = 0 ∨ s.job tag = none → u.jobs = s.jobs ∧ u.store = s.store ∧ u.accounts = s.accounts ∧ u.link = s.link) ∧
      (∀ j, tag ≠ 0 → s.job tag = some j →
        (j.kind = .scan → u.jobs = s.jobs ∧ u.store = s.store ∧ u.accounts = s.accounts ∧ u.link = s.link) ∧
        (j.kind ≠ .scan → j.state ≠ .closing → u.job tag = some { j with engineEnded := true } ∧ u.store = s.store ∧
          u.accounts = s.accounts ∧ u.link = s.link) ∧
        (j.kind ≠ .scan → j.state = .closing → u.job tag = none ∧ ∃ x : JobSummary, x.number = tag ∧ x.endMark = .complete ∧
          x.holdReleased = j.holdRemaining ∧ (s.link.notices.length < 64 → .jobDone x ∈ u.link.notices))) ∧
      (∀ m, m ≠ tag → (u.job m).map (fun x => (x.kind, x.holdRemaining, x.sheets, x.pointsCharged)) =
        (s.job m).map fun x => (x.kind, x.holdRemaining, x.sheets, x.pointsCharged)) ∧
      (∀ q, (u.account q).map (·.balance) = (s.account q).map (·.balance)) ∧ u.meters = s.meters ∧ u.cart = s.cart ∧
      u.pool.mem = s.pool.mem) ∧
  (∀ (s : State) (n : Nat) (j : Job), s.resetting = none → s.jobs.InOrder → s.job n = some j → j.state = .closing →
    ∃ (u : State) (x : JobSummary), exec (.drainExpiry n) s = .next u.finish ∧ u.job n = none ∧
      (∀ m, m ≠ n → (u.job m).map (fun x => (x.kind, x.holdRemaining, x.sheets, x.pointsCharged)) =
        (s.job m).map fun x => (x.kind, x.holdRemaining, x.sheets, x.pointsCharged)) ∧
      u.totalHolds j.owner + j.holdRemaining = s.totalHolds j.owner ∧
      x.number = n ∧ x.endMark = .unsettled ∧ x.stopCause = j.stopCause ∧ x.holdReleased = j.holdRemaining ∧
      x.sheets = j.sheets ∧ x.pointsCharged = j.pointsCharged ∧ x.pointsDrawn = j.pointsDrawn ∧
      x.pointsArrears = j.pointsArrears ∧
      (s.link.notices.length < 64 → .jobDone x ∈ u.link.notices) ∧
      (j.kind ≠ .boxPrint → u.store = s.store) ∧
      (∀ d, j.kind = .boxPrint → j.document = some d → j.eraseAfterPrint = true → 1 ≤ j.sheets →
        u.store.docs = s.store.docs.filter fun y => y.number != d) ∧
      (∀ d, j.kind = .boxPrint → j.document = some d → (j.eraseAfterPrint = false ∨ j.sheets = 0) →
        u.store.docs = s.store.docs.map fun y => if y.number = d then { y with job := none } else y) ∧
      (∀ q, (u.account q).map (·.balance) = (s.account q).map (·.balance)) ∧ u.meters = s.meters ∧ u.queue = s.queue ∧
      u.cart = s.cart ∧ u.pool.mem = s.pool.mem)

/-- What a charge draws: the hold first, then the available amount, and the rest to arrears. The take of a SHEET of a job: the
charge is drawn so and counted on the job, its owner's account and the meters, an OPEN job goes to RUNNING, and the entry leaves
the queue; the sheet is posted to the slots with the job and its owner as attribution; no other account, no document and no byte
of the pool changes (R41, R42, R43, R66, R68, R70). -/
def Obligations.SheetSettlesAgainstItsJob : Prop :=
  (∀ c h a : Nat,
    (drawOf c h a).hold = min c h ∧ (drawOf c h a).balance = min c (a + min c h) ∧
    (drawOf c h a).balance + (drawOf c h a).arrears = c ∧
    (c ≤ h → (drawOf c h a).arrears = 0 ∧ (drawOf c h a).balance = (drawOf c h a).hold) ∧
    (∀ balance holds, h ≤ holds → holds ≤ balance → a = balance - holds →
      holds - (drawOf c h a).hold ≤ balance - (drawOf c h a).balance)) ∧
  (∀ (s : State) (r : SheetRecord) (rest : List QueueEntry) (j : Job) (a : Account), s.resetting = none → s.jobs.InOrder →
    s.queue.taking = true → s.queue.entries = .sheet r :: rest → r.tag ≠ 0 → s.job r.tag = some j → j.kind ≠ .scan →
    j.sheets < 8000000 → s.account j.owner = some a →
    let c := s.priceSheet r
    let d := drawOf c.charge j.holdRemaining (a.balance - s.totalHolds j.owner)
    ∃ (u : State) (k : Job) (x : Account), exec .takeSheet s = .next u.finish ∧ u.job r.tag = some k ∧
      u.account j.owner = some x ∧
      k.holdRemaining = j.holdRemaining - d.hold ∧ k.pointsCharged = j.pointsCharged + c.charge ∧
      k.pointsDrawn = j.pointsDrawn + d.balance ∧ k.pointsArrears = j.pointsArrears + d.arrears ∧ k.sheets = j.sheets + 1 ∧
      k.monoSides = j.monoSides + c.sidesOf .mono ∧ k.colourSides = j.colourSides + c.sidesOf .colour ∧
      (j.state = .stopping ∨ j.state = .closing → k.state = j.state ∧ k.stopCause = j.stopCause) ∧
      (j.state = .opened ∨ j.state = .running → k.state = .running ∨ k.state = .stopping) ∧
      (1000000 ≤ j.sheets + 1 → j.state = .opened ∨ j.state = .running → k.state = .stopping ∧ k.stopCause = some .sheetLimit) ∧
      (k.colourUnexpected = true ↔ j.colourUnexpected = true ∨
        0 < c.sidesOf .colour ∧ (j.kind = .copy ∨ j.kind = .print) ∧ j.colourClass = .mono) ∧
      x.balance = a.balance - d.balance ∧ x.arrears = min 16000000 (a.arrears + d.arrears) ∧
      x.counters = a.counters.addAll (c.sidesOf .mono) (c.sidesOf .colour) 0 c.charge ∧ x.pin = a.pin ∧ x.state = a.state ∧
      u.meters.monoSides = s.meters.monoSides.add (c.sidesOf .mono) ∧
      u.meters.colourSides = s.meters.colourSides.add (c.sidesOf .colour) ∧
      u.meters.duplexSheets = s.meters.duplexSheets.add (if r.side2 = none then 0 else 1) ∧
      u.meters.totalSheets = s.meters.totalSheets.add 1 ∧ u.meters.unattributedSheets = s.meters.unattributedSheets ∧
      u.meters.pointsCharged = s.meters.pointsCharged.add c.charge ∧
      u.meters.arrearsPoints = s.meters.arrearsPoints.add d.arrears ∧
      u.queue = { entries := rest, taking := false, hold := s.queue.hold && decide (rest.length ≠ 8) } ∧
      (let posted := s.postSheet r (some { job := r.tag, user := s.userNumber j.owner })
       (∀ i, u.slot i = posted.slot i) ∧ u.meters.untrackedPlaneSides = posted.meters.untrackedPlaneSides) ∧
      (∀ q, q ≠ j.owner → u.account q = s.account q) ∧ u.house = s.house ∧ u.store = s.store ∧ u.settings = s.settings ∧
      u.rates = s.rates ∧ u.pool.mem = s.pool.mem)

/-- The stage an available amount leads to, from each stage, with hysteresis on the way up only. A re-evaluation gives the account
that stage and touches no other; an entry into STOPPED stops the account's COPY, PRINT and BOX_PRINT jobs that were OPEN or
RUNNING, with cause CREDIT, and no other job (R57, R58). -/
def Obligations.StagesFollowTheTable : Prop :=
  (∀ (st : Settings) (a : Nat), st.stop ≤ st.caution →
    (a < st.stop → stageAfter st .full a = .stopped) ∧
    (st.stop ≤ a → a < st.caution → stageAfter st .full a = .limited) ∧
    (st.caution ≤ a → stageAfter st .full a = .full) ∧
    (a < st.stop → stageAfter st .limited a = .stopped) ∧
    (st.caution + st.hysteresis ≤ a → stageAfter st .limited a = .full) ∧
    (st.stop ≤ a → a < st.caution + st.hysteresis → stageAfter st .limited a = .limited) ∧
    (st.caution + st.hysteresis ≤ a → stageAfter st .stopped a = .full) ∧
    (st.stop + st.hysteresis ≤ a → a < st.caution + st.hysteresis → stageAfter st .stopped a = .limited) ∧
    (a < st.stop + st.hysteresis → stageAfter st .stopped a = .stopped) ∧
    (∀ x, stageAfter st (stageAfter st x a) a = stageAfter st x a)) ∧
  (∀ (s : State) (p : Nat) (a : Account), s.jobs.InOrder → s.account p = some a →
    let stage := stageAfter s.settings a.stage (s.available p)
    (s.reevaluate p).account p = some { a with stage := stage } ∧
    (∀ q, q ≠ p → (s.reevaluate p).account q = s.account q) ∧
    (stage = a.stage → s.reevaluate p = s) ∧
    (stage = .stopped → a.stage ≠ .stopped → ∀ n j, s.job n = some j →
      (s.reevaluate p).job n = some (if j.owner = p ∧ j.kind ≠ .scan ∧ (j.state = .opened ∨ j.state = .running)
        then { j with state := .stopping, stopCause := some .credit } else j)) ∧
    (stage ≠ .stopped → (s.reevaluate p).jobs = s.jobs))

/-! ## The sheet queue and the meters (chapters 04 and 05) -/

/-- The end of a record's arrival, or a gap inside one: below 32 entries it joins the tail, a damaged one as DAMAGED, and a count
of 24 asserts ENGINE HOLD; at 32 it is lost, counted on LOST RECORDS and nothing of the queue changes (R61, R63, R64, R65). -/
def Obligations.ArrivalsJoinTheTailOrAreLost : Prop :=
  ∀ (s : State) (line : List LineByte) (e : QueueEntry), s.resetting = none →
    let stored : State := s.setQueue { s.queue with
      entries := s.queue.entries ++ [e], hold := s.queue.hold || decide (s.queue.entries.length + 1 = 24) }
    (arrivalEntry line = some e → s.queue.entries.length < 32 → exec (.engineRecordArrival line) s = .next stored.finish) ∧
    (receiveRecord line = .partly → e = .damaged → s.queue.entries.length < 32 →
      exec (.engineGapExpiry line) s = .next stored.finish) ∧
    (32 ≤ s.queue.entries.length → (arrivalEntry line).isSome = true →
      ∃ u : State, exec (.engineRecordArrival line) s = .next u.finish ∧ u.queue = s.queue ∧
        u.meters = { s.meters with lostRecords := s.meters.lostRecords.add 1 } ∧
        u.link = s.link.post (.queueOverrun 1 u.meters.lostRecords) ∧ u.accounts = s.accounts ∧ u.jobs = s.jobs ∧
        u.cart = s.cart ∧ u.house = s.house) ∧
    (32 ≤ s.queue.entries.length → receiveRecord line = .partly →
      ∃ u : State, exec (.engineGapExpiry line) s = .next u.finish ∧ u.queue = s.queue ∧
        u.meters = { s.meters with lostRecords := s.meters.lostRecords.add 1 } ∧
        u.link = s.link.post (.queueOverrun 1 u.meters.lostRecords) ∧ u.accounts = s.accounts ∧ u.jobs = s.jobs ∧
        u.cart = s.cart ∧ u.house = s.house) ∧
    (∀ n m m', Notice.merge (.queueOverrun n m) (.queueOverrun 1 m') = .queueOverrun (min 65535 (n + 1)) m') ∧
    ((receiveRecord line = .broken ∨ ∃ covered, receiveRecord line = .complete covered false) → arrivalEntry line = some .damaged)

/-- The take of a DAMAGED entry: DAMAGED RECORDS adds 1, the entry leaves the queue, and no job, account, notice or cartridge slot
is touched (R67). -/
def Obligations.DamagedEntriesAreCounted : Prop :=
  ∀ (s : State) (rest : List QueueEntry), s.resetting = none → s.queue.taking = true → s.queue.entries = .damaged :: rest →
    exec .takeDamaged s = .next ((s.setMeters { s.meters with damagedRecords := s.meters.damagedRecords.add 1 }).setQueue
      { entries := rest, taking := false, hold := s.queue.hold && decide (rest.length ≠ 8) }).finish

/-- A SHEET with tag 0, an unknown tag, a SCAN job's tag or a job at its counting limit is unattributed: the house account and the
meters take its counts, the sheet is posted to the slots without attribution, and no account, job, document or notice is touched
(R45, R68, R69, R70). -/
def Obligations.UnattributedSheetsGoToTheHouse : Prop :=
  ∀ (s : State) (r : SheetRecord) (rest : List QueueEntry), s.resetting = none →
    s.queue.taking = true → s.queue.entries = .sheet r :: rest →
    (r.tag = 0 ∨ s.job r.tag = none ∨ ∃ j, s.job r.tag = some j ∧ (j.kind = .scan ∨ 8000000 ≤ j.sheets)) →
    let c := s.priceSheet r
    ∃ u : State, exec .takeSheet s = .next u.finish ∧
      u.house = s.house.addAll (c.sidesOf .mono) (c.sidesOf .colour) 0 c.charge ∧
      u.meters.monoSides = s.meters.monoSides.add (c.sidesOf .mono) ∧
      u.meters.colourSides = s.meters.colourSides.add (c.sidesOf .colour) ∧
      u.meters.duplexSheets = s.meters.duplexSheets.add (if r.side2 = none then 0 else 1) ∧
      u.meters.totalSheets = s.meters.totalSheets.add 1 ∧
      u.meters.unattributedSheets = s.meters.unattributedSheets.add 1 ∧
      u.meters.pointsCharged = s.meters.pointsCharged.add c.charge ∧ u.meters.arrearsPoints = s.meters.arrearsPoints ∧
      u.queue = { entries := rest, taking := false, hold := s.queue.hold && decide (rest.length ≠ 8) } ∧
      (∀ i, u.slot i = (s.postSheet r none).slot i) ∧
      u.meters.untrackedPlaneSides = (s.postSheet r none).meters.untrackedPlaneSides ∧
      u.accounts = s.accounts ∧ u.jobs = s.jobs ∧ u.store = s.store ∧ u.link = s.link ∧ u.pool.mem = s.pool.mem

/-- An amount added to a meter or counter: the sum when it fits in eight digits, else 99,999,999 with the FULL mark set; a FULL
meter stays as it is, and an amount of 0 changes nothing (R77). -/
def Obligations.MetersSaturate : Prop :=
  (∀ (x : Meters) (a : MeterAdds), (x.addAll a).toList = List.zipWith Meter.add x.toList
    [a.monoSides, a.colourSides, a.duplexSheets, a.totalSheets, a.scanPages, a.unattributedSheets, a.damagedRecords,
     a.lostRecords, a.pointsCharged, a.arrearsPoints, a.cartridgesRejected, a.untrackedPlaneSides, a.tamperEvents]) ∧
  ∀ (m : Meter) (n : Nat), m.value ≤ 99999999 → (m.full = true → m.value = 99999999) →
    (m.value + n ≤ 99999999 → (m.add n).value = m.value + n ∧ (m.add n).full = m.full) ∧
    (100000000 ≤ m.value + n → m.add n = { value := 99999999, full := true }) ∧
    (m.full = true → m.add n = m) ∧ m.add 0 = m ∧
    (∀ k, (m.add n).add k = m.add (n + k)) ∧ (m.add n).value ≤ 99999999

/-! ## Cartridges and toner (chapters 06 and 07) -/

/-- Presence rises on an EMPTY slot: it is IDENTIFYING, an IDENTIFY is requested, and CARTRIDGE_STATE is posted. Presence falls:
the slot is EMPTY, its requests, timers and debit are gone, a transaction on it ends, and the discarded debit is reported
(R93, R96, R108, R114). -/
def Obligations.PresenceMovesTheSlot : Prop :=
  ∀ (s : State) (i : Fin 4), s.resetting = none →
    ((s.slot i).present = false → exec (.cartInserted i) s = .next ((s.setSlot i { s.slot i with
        present := true, state := .identifying, serial := none, fails := 0, unanswered := 0, sinceInsertion := 0,
        attribution := none, requests := { (s.slot i).requests with identify := true } }).post (.cartridgeState
          { slot := i, before := (s.slot i).state, now := .identifying, serial := none, fails := 0,
            failLimit := s.settings.failLimit, cause := .inserted, discarded := 0 })).finish) ∧
    ((s.slot i).present = true → exec (.cartRemoved i) s = .next (((s.setCart { s.cart with
        transaction := s.cart.transaction.filter fun t => t.slot != i }).setSlot i { s.slot i with
          present := false, state := .empty, serial := none, ratedYield := none, tagRemaining := none, pending := 0,
          unconfirmed := none, remembered := none, requests := {}, recheck := none, flush := none }).post (.cartridgeState
            { slot := i, before := (s.slot i).state, now := .empty, serial := none, fails := (s.slot i).fails,
              failLimit := s.settings.failLimit, cause := .removed, discarded := (s.slot i).pending })).finish)

/-- A good IDENTIFY answer for a slot in IDENTIFYING: a listed serial rejects the slot; else serial, yield and remaining are
recorded with the retained fail count of that serial. At the fail limit the slot is rejected; below it a CHALLENGE is requested, but a
yield of 0 or a remaining above the yield is a failed challenge (R87, R94, R97, R103). -/
def Obligations.IdentifyRecordsTheCartridge : Prop :=
  ∀ (s : State) (t : Transaction) (serial : Serial) (yield remaining : Nat), s.resetting = none →
    s.cart.transaction = some t → t.work = .identify → (s.slot t.slot).state = .identifying →
    yield < 4294967296 → remaining < 4294967296 →
    let answer := lineMessage (wordBytes serial ++ be 4 yield ++ be 4 remaining)
    let fails := if (s.slot t.slot).retainedSerial = some serial then (s.slot t.slot).retainedFails else 0
    ∃ u : State, exec (.cartIdentifyAnswer answer) s = .next u.finish ∧ u.cart.transaction = none ∧
      (serial ∈ s.cart.rejectList → (u.slot t.slot).state = .rejected ∧ (u.slot t.slot).pending = 0 ∧
        (u.slot t.slot).requests = {} ∧ u.cart.rejectList = s.cart.rejectList ∧ u.cart.snapshots = s.cart.snapshots ∧
        u.meters = s.meters) ∧
      (serial ∉ s.cart.rejectList → fails < s.settings.failLimit → 1 ≤ yield → remaining ≤ yield →
        u.slot t.slot = { s.slot t.slot with
          serial := some serial, ratedYield := some yield, tagRemaining := some remaining, fails := fails, unanswered := 0,
          retainedSerial := some serial, retainedFails := fails,
          requests := { (s.slot t.slot).requests with challenge := true } } ∧
        (∀ k, k ≠ t.slot → u.slot k = s.slot k) ∧ u.cart.rejectList = s.cart.rejectList ∧
        u.cart.snapshots = s.cart.snapshots ∧ u.meters = s.meters) ∧
      (serial ∉ s.cart.rejectList → s.settings.failLimit ≤ fails → (u.slot t.slot).state = .rejected ∧
        (u.slot t.slot).fails = fails ∧ u.cart.rejectList = joinRejectList s.cart.rejectList serial ∧
        u.meters = s.meters.addAll { cartridgesRejected := 1 }) ∧
      (serial ∉ s.cart.rejectList → fails < s.settings.failLimit → yield = 0 ∨ yield < remaining →
        (fails + 1 < s.settings.failLimit →
          u.slot t.slot = { s.slot t.slot with
            state := .suspect, serial := some serial, ratedYield := some yield, tagRemaining := some remaining,
            fails := fails + 1, unanswered := 0, retainedSerial := some serial, retainedFails := fails + 1,
            recheck := some 0 } ∧
          (∀ k, k ≠ t.slot → u.slot k = s.slot k) ∧ u.cart.rejectList = s.cart.rejectList ∧
          u.cart.snapshots = s.cart.snapshots ∧ u.meters = s.meters) ∧
        (s.settings.failLimit ≤ fails + 1 → (u.slot t.slot).state = .rejected ∧ (u.slot t.slot).fails = fails + 1 ∧
          (u.slot t.slot).retainedFails = fails + 1 ∧ u.cart.rejectList = joinRejectList s.cart.rejectList serial ∧
          u.meters = s.meters.addAll { cartridgesRejected := 1 })) ∧
      u.accounts = s.accounts ∧ u.jobs = s.jobs ∧ u.queue = s.queue ∧ u.store = s.store ∧ u.streams = s.streams ∧
      u.pool.mem = s.pool.mem

/-- A good CHALLENGE answer that equals the expected response is a pass, any other a fail; the fail count and the state move as
the table of R97 says, the retained fail count follows, and at the fail limit the slot is rejected (R87, R95, R97, R103). -/
def Obligations.ChallengesMoveTheFailCount : Prop :=
  ∀ (s : State) (t : Transaction) (bytes expected response : BitVec 64) (serial : Serial), s.resetting = none →
    s.cart.transaction = some t → t.work = .challenge bytes expected → (s.slot t.slot).state = .identifying ∨
      (s.slot t.slot).state = .genuine ∨ (s.slot t.slot).state = .suspect → (s.slot t.slot).serial = some serial →
    let sl := s.slot t.slot
    let failed := if sl.state = .genuine then 1 else sl.fails + 1
    ∃ u : State, exec (.cartChallengeAnswer (lineMessage (wordBytes response))) s = .next u.finish ∧
      u.cart.transaction = none ∧
      (response = expected → sl.state = .genuine → u.slot t.slot = { sl with unanswered := 0 } ∧ u.link = s.link) ∧
      (response = expected → sl.state ≠ .genuine → sl.fails ≤ 1 → u.slot t.slot = { sl with
        unanswered := 0, state := .genuine, fails := 0, retainedFails := 0, sinceVerify := 0, recheck := none }) ∧
      (response = expected → sl.state ≠ .genuine → 2 ≤ sl.fails → u.slot t.slot = { sl with
        unanswered := 0, state := .suspect, fails := sl.fails - 1, retainedFails := sl.fails - 1,
        recheck := if sl.state = .suspect then sl.recheck else some 0 }) ∧
      (response ≠ expected → failed < s.settings.failLimit → u.slot t.slot = { sl with
        unanswered := 0, state := .suspect, fails := failed, retainedFails := failed,
        recheck := if sl.state = .suspect then sl.recheck else some 0 }) ∧
      (response = expected ∨ failed < s.settings.failLimit →
        (∀ k, k ≠ t.slot → u.slot k = s.slot k) ∧ u.cart.rejectList = s.cart.rejectList ∧
        u.cart.snapshots = s.cart.snapshots ∧ u.meters = s.meters) ∧
      (response ≠ expected → s.settings.failLimit ≤ failed →
        u.slot t.slot = { sl with unanswered := 0, state := .rejected, fails := failed, retainedFails := failed, pending := 0,
                                  unconfirmed := none, remembered := none, requests := {}, recheck := none, flush := none } ∧
        u.cart.rejectList = joinRejectList s.cart.rejectList serial ∧
        u.meters = s.meters.addAll { cartridgesRejected := 1 } ∧
        (∀ k, k ≠ t.slot → (s.slot k).serial = some serial → (s.slot k).state ≠ .empty → (u.slot k).state = .rejected) ∧
        (∀ k, k ≠ t.slot → (s.slot k).serial ≠ some serial → u.slot k = s.slot k)) ∧
      u.accounts = s.accounts ∧ u.jobs = s.jobs ∧ u.queue = s.queue ∧ u.store = s.store ∧ u.streams = s.streams ∧
      u.pool.mem = s.pool.mem

/-- A good DEBIT answer that gives the old tag remaining less the amount takes both down, and asks for another DEBIT when the
quantum is reached or the flush timer has stopped on an uncovered debit; any other value is recorded, leaves the debit pending
and counts as a failed challenge, which at the fail limit rejects the slot with a fault snapshot. A good IDENTIFY answer with the
serial of a slot in GENUINE, SUSPECT or SILENT settles an unconfirmed debit by the rows of R101: the remaining held, the debit was
not written and stays pending; that less the amount, it was written; any other value is a failed challenge, as it is where no debit
is unconfirmed (R97, R100, R101, R103, R106, R111 to R113). The model's own: a slot back from SILENT has its remembered state and its
CHALLENGE request before the check (log 28), an answer in GENUINE or SUSPECT is checked without an unconfirmed debit too (log 31),
and a reported 0 of a slot that holds 0 is taken by the first row (log 40). -/
def Obligations.DebitAnswersAreChecked : Prop :=
  (∀ (s : State) (t : Transaction) (amount value : Nat), s.resetting = none → s.cart.transaction = some t →
    t.work = .debit amount → (s.slot t.slot).state = .genuine ∨ (s.slot t.slot).state = .suspect → value < 4294967296 →
    let sl := s.slot t.slot
    let uncovered := sl.pending - amount - sl.unconfirmed.getD 0
    let failed := if sl.state = .genuine then 1 else sl.fails + 1
    ∃ u : State, exec (.cartDebitAnswer (lineMessage (be 4 value))) s = .next u.finish ∧ u.cart.transaction = none ∧
      (value = sl.tagRemaining.getD 0 - amount →
        u.slot t.slot = { sl with
          unanswered := 0, tagRemaining := some value, pending := sl.pending - amount,
          requests := if 4096 ≤ uncovered ∨ (sl.flush = none ∧ 0 < uncovered) then { sl.requests with debit := true }
                      else sl.requests } ∧
        (∀ k, k ≠ t.slot → u.slot k = s.slot k) ∧ u.meters = s.meters ∧ u.link = s.link) ∧
      (value ≠ sl.tagRemaining.getD 0 - amount → failed < s.settings.failLimit →
        (u.slot t.slot).tagRemaining = some value ∧ (u.slot t.slot).pending = sl.pending ∧
        (u.slot t.slot).state = .suspect ∧ (u.slot t.slot).fails = failed ∧ (u.slot t.slot).retainedFails = failed ∧
        (∀ k, k ≠ t.slot → u.slot k = s.slot k) ∧ u.meters = s.meters) ∧
      (∀ serial, value ≠ sl.tagRemaining.getD 0 - amount → s.settings.failLimit ≤ failed → sl.serial = some serial →
        u.slot t.slot = { sl with
          unanswered := 0, tagRemaining := some value, state := .rejected, fails := failed, retainedFails := failed, pending := 0,
          unconfirmed := none, remembered := none, requests := {}, recheck := none, flush := none } ∧
        u.cart.snapshots = keepSnapshot s.cart.snapshots
          { slot := t.slot, serial := serial, fails := failed, failLimit := s.settings.failLimit,
            sinceInsertion := sl.sinceInsertion, view := value - sl.pending, totalSheets := s.meters.totalSheets,
            attribution := sl.attribution } ∧
        u.cart.rejectList = joinRejectList s.cart.rejectList serial ∧
        u.meters = s.meters.addAll { cartridgesRejected := 1 } ∧
        (∀ k, k ≠ t.slot → (s.slot k).serial = some serial → (s.slot k).state ≠ .empty → (u.slot k).state = .rejected) ∧
        (∀ k, k ≠ t.slot → (s.slot k).serial ≠ some serial → u.slot k = s.slot k)) ∧
      u.accounts = s.accounts ∧ u.jobs = s.jobs ∧ u.queue = s.queue ∧ u.store = s.store ∧ u.streams = s.streams ∧
      u.pool.mem = s.pool.mem) ∧
  (∀ (s : State) (t : Transaction) (serial : Serial) (yield held reported : Nat) (back : SlotState), s.resetting = none →
    s.cart.transaction = some t → t.work = .identify →
    (back = .genuine ∨ back = .suspect) ∧ (s.slot t.slot).state = back ∨
      (s.slot t.slot).state = .silent ∧ (s.slot t.slot).remembered = some back ∧ serial ∉ s.cart.rejectList →
    (s.slot t.slot).serial = some serial → (s.slot t.slot).tagRemaining = some held →
    yield < 4294967296 → reported < 4294967296 →
    let sl := s.slot t.slot
    let base : Slot := if sl.state = .silent then
        { sl with state := back, remembered := none, requests := { sl.requests with challenge := true },
                  recheck := if back = .suspect then some 0 else none, sinceVerify := if back = .genuine then 0 else sl.sinceVerify }
      else sl
    let settled (remaining pending : Nat) : Slot := { base with
      unanswered := 0, tagRemaining := some remaining, pending := pending, unconfirmed := none,
      requests := if sl.unconfirmed.isSome = true ∧ (4096 ≤ pending ∨ (sl.flush = none ∧ 0 < pending)) then
          { base.requests with debit := true } else base.requests }
    let written := ∃ m, sl.unconfirmed = some m ∧ reported = held - m
    let failed := if back = .genuine then 1 else sl.fails + 1
    ∃ u : State, exec (.cartIdentifyAnswer (lineMessage (wordBytes serial ++ be 4 yield ++ be 4 reported))) s = .next u.finish ∧
      u.cart.transaction = none ∧
      (reported = held → u.slot t.slot = settled held sl.pending) ∧
      (∀ m, reported ≠ held → sl.unconfirmed = some m → reported = held - m →
        u.slot t.slot = settled reported (sl.pending - m)) ∧
      (reported ≠ held → ¬written → failed < s.settings.failLimit →
        u.slot t.slot = { settled reported sl.pending with
          state := .suspect, fails := failed, retainedFails := failed,
          recheck := if back = .suspect then base.recheck else some 0 }) ∧
      (reported = held ∨ written ∨ failed < s.settings.failLimit →
        (∀ k, k ≠ t.slot → u.slot k = s.slot k) ∧ u.cart.rejectList = s.cart.rejectList ∧
        u.cart.snapshots = s.cart.snapshots ∧ u.meters = s.meters) ∧
      (reported ≠ held → ¬written → s.settings.failLimit ≤ failed →
        u.slot t.slot = { settled reported 0 with
          state := .rejected, fails := failed, retainedFails := failed, remembered := none, requests := {}, recheck := none,
          flush := none } ∧
        u.cart.snapshots = keepSnapshot s.cart.snapshots
          { slot := t.slot, serial := serial, fails := failed, failLimit := s.settings.failLimit,
            sinceInsertion := sl.sinceInsertion, view := reported - sl.pending, totalSheets := s.meters.totalSheets,
            attribution := sl.attribution } ∧
        u.cart.rejectList = joinRejectList s.cart.rejectList serial ∧
        u.meters = s.meters.addAll { cartridgesRejected := 1 } ∧
        (∀ k, k ≠ t.slot → (s.slot k).serial = some serial → (s.slot k).state ≠ .empty → (u.slot k).state = .rejected) ∧
        (∀ k, k ≠ t.slot → (s.slot k).serial ≠ some serial → u.slot k = s.slot k)) ∧
      u.accounts = s.accounts ∧ u.jobs = s.jobs ∧ u.queue = s.queue ∧ u.store = s.store ∧ u.streams = s.streams ∧
      u.pool.mem = s.pool.mem)

/-- A bad answer or none: the unanswered count rises, the request is made again, a DEBIT's amount is held unconfirmed, and the
third in a row sends the slot to SILENT, where no IDENTIFY is requested. A SILENT slot that identifies itself with its serial and
the remaining it had returns to its remembered state with a CHALLENGE requested (R91, R92, R98, R100, R101, R114); the model's own
reading (log 28) is that a return to GENUINE sets sheets since verify to 0. In a slot already SILENT an unanswered IDENTIFY leaves the
state, the remembered state and the timer. -/
def Obligations.UnansweredTransactionsRepeat : Prop :=
  (∀ (s : State) (t : Transaction) (answer : List Byte), s.resetting = none → s.cart.transaction = some t →
    (s.slot t.slot).state = .identifying ∨ (s.slot t.slot).state = .genuine ∨ (s.slot t.slot).state = .suspect →
    answerFields t.work.answerBytes answer = none →
    let sl := s.slot t.slot
    ∃ u : State, exec (.cartBadAnswer answer) s = .next u.finish ∧ exec .cartAnswerTimeout s = .next u.finish ∧
      u.cart.transaction = none ∧ (∀ k, k ≠ t.slot → u.slot k = s.slot k) ∧
      (u.slot t.slot).fails = sl.fails ∧ (u.slot t.slot).pending = sl.pending ∧ (u.slot t.slot).serial = sl.serial ∧
      (u.slot t.slot).tagRemaining = sl.tagRemaining ∧
      (sl.unanswered < 2 → (u.slot t.slot).state = sl.state ∧ (u.slot t.slot).unanswered = sl.unanswered + 1 ∧
        (t.work = .identify → (u.slot t.slot).requests.identify = true) ∧
        (∀ m, t.work = .debit m → (u.slot t.slot).requests.identify = true)) ∧
      (2 ≤ sl.unanswered → (u.slot t.slot).state = .silent ∧ (u.slot t.slot).unanswered = 3 ∧
        (u.slot t.slot).remembered = some sl.state ∧ (u.slot t.slot).recheck = some 0 ∧
        (u.slot t.slot).requests.identify = sl.requests.identify) ∧
      (∀ c e, t.work = .challenge c e → (u.slot t.slot).requests.challenge = true) ∧
      (∀ m, t.work = .debit m → (u.slot t.slot).unconfirmed = some m) ∧
      u.meters = s.meters ∧ u.accounts = s.accounts ∧ u.jobs = s.jobs ∧ u.queue = s.queue ∧ u.store = s.store ∧
      u.streams = s.streams ∧ u.pool.mem = s.pool.mem) ∧
  (∀ (s : State) (t : Transaction) (answer : List Byte), s.resetting = none → s.cart.transaction = some t →
    (s.slot t.slot).state = .silent → t.work = .identify → answerFields 16 answer = none →
    let after : State := (s.setCart { s.cart with transaction := none }).setSlot t.slot
      { s.slot t.slot with unanswered := min 3 ((s.slot t.slot).unanswered + 1) }
    exec (.cartBadAnswer answer) s = .next after.finish ∧ exec .cartAnswerTimeout s = .next after.finish) ∧
  (∀ (s : State) (t : Transaction) (serial : Serial) (yield remaining : Nat) (back : SlotState), s.resetting = none →
    s.cart.transaction = some t → t.work = .identify → (s.slot t.slot).state = .silent →
    (s.slot t.slot).remembered = some back → (s.slot t.slot).serial = some serial → serial ∉ s.cart.rejectList →
    (s.slot t.slot).unconfirmed = none → (s.slot t.slot).tagRemaining = some remaining → yield < 4294967296 →
    remaining < 4294967296 →
    let sl := s.slot t.slot
    ∃ u : State, exec (.cartIdentifyAnswer (lineMessage (wordBytes serial ++ be 4 yield ++ be 4 remaining))) s = .next u.finish ∧
      u.cart.transaction = none ∧
      u.slot t.slot = { sl with
        unanswered := 0, state := back, remembered := none, requests := { sl.requests with challenge := true },
        recheck := if back = .suspect then some 0 else none, sinceVerify := if back = .genuine then 0 else sl.sinceVerify } ∧
      (∀ k, k ≠ t.slot → u.slot k = s.slot k) ∧ u.cart.rejectList = s.cart.rejectList ∧ u.meters = s.meters ∧
      u.accounts = s.accounts ∧ u.jobs = s.jobs ∧ u.queue = s.queue ∧ u.store = s.store ∧ u.streams = s.streams ∧
      u.pool.mem = s.pool.mem)

/-- The recheck expiry restarts the timer and asks for a CHALLENGE in SUSPECT, an IDENTIFY in SILENT; the flush expiry stops the
timer and asks for a DEBIT when the uncovered debit is above 0 (R99, R112). -/
def Obligations.SlotTimersAskForWork : Prop :=
  ∀ (s : State) (i : Fin 4) (n : Nat), s.resetting = none →
    let sl := s.slot i
    (sl.recheck = some n → sl.state = .suspect → exec (.recheckExpiry i) s =
      .next (s.setSlot i { sl with recheck := some 0, requests := { sl.requests with challenge := true } }).finish) ∧
    (sl.recheck = some n → sl.state = .silent → exec (.recheckExpiry i) s =
      .next (s.setSlot i { sl with recheck := some 0, requests := { sl.requests with identify := true } }).finish) ∧
    (sl.flush = some n → 0 < s.cart.uncovered i → exec (.flushExpiry i) s =
      .next (s.setSlot i { sl with flush := none, requests := { sl.requests with debit := true } }).finish) ∧
    (sl.flush = some n → s.cart.uncovered i = 0 → exec (.flushExpiry i) s =
      .next (s.setSlot i { sl with flush := none }).finish)

/-- REJECT REMOVE of a listed serial takes it off the list and sets the retained fail count of every slot that retains it to 0;
of another it only answers that nothing was removed (R105). -/
def Obligations.RejectRemoveForgives : Prop :=
  ∀ (s : State) (serial : Serial), s.Serving →
    (s.isAdmin = false → exec (.rejectRemove (wordBytes serial)) s = s.answersNo 149 .notPermitted) ∧
    ∀ se : Session, s.session = some se → s.isAdmin = true →
    (serial ∉ s.cart.rejectList → exec (.rejectRemove (wordBytes serial)) s = (s.used se).answersOk 149 [0]) ∧
    (serial ∈ s.cart.rejectList → ∃ u : State, exec (.rejectRemove (wordBytes serial)) s = u.answersOk 149 [1] ∧
      u.cart.rejectList = s.cart.rejectList.filter (fun x => x != serial) ∧
      (∀ i, u.slot i = { s.slot i with retainedFails :=
        if (s.slot i).retainedSerial = some serial then 0 else (s.slot i).retainedFails }) ∧
      u.cart.snapshots = s.cart.snapshots ∧ u.cart.transaction = s.cart.transaction ∧ u.meters = s.meters ∧
      u.session = some { se with idle := 0 } ∧ u.accounts = s.accounts ∧ u.jobs = s.jobs ∧ u.streams = s.streams ∧
      u.pool = s.pool)

/-- What a sheet's posting does to the slot of each plane: no dots, nothing; EMPTY or REJECTED, only its sides are counted as
untracked; in any other state its kilodots join the pending debit and the flush timer restarts. A GENUINE slot that reaches the verify
interval asks for a CHALLENGE unless one is in progress, and an uncovered debit of 4,096 or more asks for a DEBIT
(R70, R98, R109 to R112). -/
def Obligations.PostingsReachTheirSlots : Prop :=
  ∀ (s : State) (r : SheetRecord) (a : Option Attribution) (i : Fin 4),
    let plane (d : Dots) : Nat := if i = 0 then d.k else if i = 1 then d.c else if i = 2 then d.m else d.y
    let dots := plane r.side1 + (r.side2.map plane).getD 0
    let sl := s.slot i
    let after := (s.postSheet r a).slot i
    (dots = 0 → after = sl) ∧
    (sl.state = .empty ∨ sl.state = .rejected → after = sl) ∧
    (dots ≠ 0 → sl.state ≠ .empty → sl.state ≠ .rejected →
      after.pending = min 4294967295 (sl.pending + dots) ∧ after.sinceInsertion = min 16777215 (sl.sinceInsertion + 1) ∧
      after.flush = some 0 ∧ after.attribution = (if a = none then sl.attribution else a) ∧
      after.state = sl.state ∧ after.serial = sl.serial ∧ after.tagRemaining = sl.tagRemaining ∧ after.fails = sl.fails ∧
      (sl.state ≠ .genuine → after.sinceVerify = sl.sinceVerify) ∧
      (sl.state = .genuine → sl.sinceVerify + 1 < s.settings.verifyInterval → after.sinceVerify = sl.sinceVerify + 1) ∧
      (sl.state = .genuine → s.settings.verifyInterval ≤ sl.sinceVerify + 1 → after.sinceVerify = 0 ∧
        ((∀ t c e, s.cart.transaction = some t → t.slot = i → t.work ≠ .challenge c e) → after.requests.challenge = true)) ∧
      (sl.state ≠ .genuine ∨ sl.sinceVerify + 1 < s.settings.verifyInterval ∨
          (∃ t c e, s.cart.transaction = some t ∧ t.slot = i ∧ t.work = .challenge c e) →
        after.requests.challenge = sl.requests.challenge) ∧
      (let uncovered := after.pending - s.cart.inFlight i - sl.unconfirmed.getD 0
       (4096 ≤ uncovered → after.requests.debit = true) ∧
       (uncovered < 4096 → after.requests.debit = sl.requests.debit)) ∧
      after.requests.identify = sl.requests.identify) ∧
    (let sides (k : Fin 4) (f : Dots → Nat) : Nat :=
       if (s.slot k).state = .empty ∨ (s.slot k).state = .rejected then
         (if 0 < f r.side1 then 1 else 0) + (if 0 < (r.side2.map f).getD 0 then 1 else 0)
       else 0
     let lost := sides 0 Dots.k + sides 1 Dots.c + sides 2 Dots.m + sides 3 Dots.y
     (s.postSheet r a).meters = { s.meters with untrackedPlaneSides := s.meters.untrackedPlaneSides.add lost }) ∧
    (s.postSheet r a).accounts = s.accounts ∧ (s.postSheet r a).jobs = s.jobs ∧ (s.postSheet r a).link = s.link ∧
    (s.postSheet r a).house = s.house

/-- A slot's view remaining is its tag remaining less its pending debit, or 0. Its level is OUT at 0, LOW up to the low mark of the
rated yield, else NORMAL; a plane is usable in GENUINE and SUSPECT at LOW or NORMAL; mono needs K, colour all four
(R115, R116, R118). -/
def Obligations.LevelsDecideAvailability : Prop :=
  (∀ sl : Slot,
    (sl.tagRemaining = none ↔ sl.view = none) ∧
    (∀ t, sl.tagRemaining = some t →
      (sl.pending ≤ t → ∃ v, sl.view = some v ∧ v + sl.pending = t) ∧ (t < sl.pending → sl.view = some 0) ∧
      (∀ m, m ≤ sl.pending → m ≤ t → ({ sl with tagRemaining := some (t - m), pending := sl.pending - m } : Slot).view = sl.view))) ∧
  ((∀ (sl : Slot) (mark : Nat),
    (sl.levelNow mark = none ↔ sl.view = none) ∧ (sl.levelNow mark = some .out ↔ sl.view = some 0) ∧
    (sl.levelNow mark = some .low ↔ ∃ v, sl.view = some v ∧ 0 < v ∧ v ≤ sl.ratedYield.getD 0 * mark / 1000) ∧
    (sl.usable = true ↔ (sl.state = .genuine ∨ sl.state = .suspect) ∧ (sl.level = some .low ∨ sl.level = some .normal))) ∧
  (∀ u : CartUnit, (u.monoNow = true ↔ (u.slots.get 0).usable = true) ∧
    (u.colourNow = true ↔ ∀ i, (u.slots.get i).usable = true) ∧ (u.colourNow = true → u.monoNow = true)))

/-! ## Streams (chapter 10) -/

/-- An accepted STREAM BIND: the stream of an IDLE number holds job, document and window, waits in HOLD with every count zero, and
the job names it; ENCODE for a SCAN job, RELEASE for BOX_PRINT. A bind that is not accepted is refused by the first check that
applies, in the order of R151 and R125, and changes nothing but the session idle timer, which restarts (R125, R126, R151). -/
def Obligations.StreamBindStartsInHold : Prop :=
  (∀ (s : State) (se : Session) (i : Fin 4) (n d : Nat) (j : Job) (a : Account) (w : Window), s.Serving → s.session = some se →
    s.jobs.InOrder → n < 65536 → s.job n = some j → s.account j.owner = some a → (s.stream i).state = .idle →
    (j.kind = .scan ∧ j.state = .opened ∨ j.kind = .boxPrint ∧ j.state ≠ .closing) → j.owner = se.position →
    j.stream = none → a.boxRight = true → j.document = some d → (s.document d).isSome = true →
    (j.kind = .boxPrint → s.documentColour j.document = true → a.colourRight = .full) → s.tamper.latch = false →
    1 ≤ w.perHalf → w.perHalf ≤ 64 → 1 ≤ w.halves → w.halves ≤ 2 → w.first + w.perHalf * w.halves ≤ 512 →
    s.pool.underReset = false →
    (∀ k v, (s.stream k).window = some v →
      v.first + v.perHalf * v.halves ≤ w.first ∨ w.first + w.perHalf * w.halves ≤ v.first) →
    (∀ r ∈ s.pool.wipe, r.first + r.count ≤ w.first ∨ w.first + w.perHalf * w.halves ≤ r.first) →
    s.pool.wipe.length + boundWindows s.streams < 8 →
    exec (.streamBind (be 1 i.val ++ be 2 n ++ be 2 w.first ++ be 1 w.perHalf ++ be 1 w.halves)) s =
      (((s.used se).setStream i
        { kind := some (if j.kind = .scan then .encode else .release), state := .hold, job := some n, document := some d,
          window := some w, pageStart := true, pageClass := j.sizeClass }).changeJob n fun x =>
            { x with stream := some i }).answersOk 151
        (be 1 i.val ++ [if j.kind = .scan then 0 else 1] ++ be 2 w.first ++ be 1 w.perHalf ++ be 1 w.halves)) ∧
  (∀ (s : State) (se : Session) (k n : Nat) (w : Window), s.Serving → s.session = some se → k < 256 → n < 65536 →
    w.first < 65536 → w.perHalf < 256 → w.halves < 256 →
    let body := be 1 k ++ be 2 n ++ be 2 w.first ++ be 1 w.perHalf ++ be 1 w.halves
    (4 ≤ k ∨ s.job n = none → exec (.streamBind body) s = (s.used se).answersNo 151 .range) ∧
    (∀ (i : Fin 4) (j : Job) (a : Account), i.val = k → s.job n = some j → s.account j.owner = some a →
      let shares (first count : Nat) := ∃ c, first ≤ c ∧ c < first + count ∧ w.first ≤ c ∧ c < w.first + w.perHalf * w.halves
      firstApplies
        [((s.stream i).state ≠ .idle, .busy),
         (j.kind = .copy ∨ j.kind = .print ∨ j.stream.isSome = true ∨ j.owner ≠ se.position ∨ j.state = .closing ∨
           (j.kind = .scan ∧ j.state ≠ .opened) ∨ a.boxRight = false ∨
           (j.kind = .boxPrint ∧ s.documentColour j.document = true ∧ a.colourRight = .mono), .notPermitted),
         ((∀ d, j.document = some d → s.document d = none), .noDocument),
         (s.tamper.latch = true, .tampered),
         (w.perHalf < 1 ∨ 64 < w.perHalf ∨ w.halves < 1 ∨ 2 < w.halves ∨ 511 < w.first ∨
           511 < w.first + w.perHalf * w.halves - 1, .range),
         (s.pool.underReset = true, .busy),
         ((∃ k v, (s.stream k).window = some v ∧ shares v.first (v.perHalf * v.halves)), .overlap),
         ((∃ r ∈ s.pool.wipe, shares r.first r.count), .busy),
         (8 ≤ s.pool.wipe.length + boundWindows s.streams, .busy)]
        fun st => exec (.streamBind body) s = (s.used se).answersNo 151 st))

/-- STREAM FLOW takes a stream from HOLD to FLOW, an ENCODE stream freely, a RELEASE stream while its owner's session is OPEN, its
job is not STOPPING, the toner suffices and no tamper latch is set; STREAM HOLD takes it back; BUSY from any other state
(R152, R153). Two points are the model's own: the STREAM HOLD reply carries the states of both halves whatever the window (log 20),
and a STREAM FLOW of a RELEASE stream that is refused BUSY restarts the session idle timer too while the session is on the job's
owner (log 35). -/
def Obligations.FlowAndHoldMoveTheStream : Prop :=
  ∀ (s : State) (i : Fin 4), s.Serving →
    let st := s.stream i
    let flowing : Stream := { st with state := .flow, idle := if st.stored = true ∧ st.lastBand = false then some 0 else none }
    (st.state = .hold → st.kind = some .encode →
      exec (.streamFlow (be 1 i.val)) s = (s.setStream i flowing).answersOk 152 []) ∧
    (∀ se n j, st.state = .hold → st.kind = some .release → s.session = some se → st.job = some n → s.job n = some j →
      j.owner = se.position → s.tamper.latch = false → j.state ≠ .stopping → s.cart.mono = true →
      (s.documentColour st.document = true → s.cart.colour = true) →
      exec (.streamFlow (be 1 i.val)) s = ((s.used se).setStream i flowing).answersOk 152 []) ∧
    (st.state = .hold → st.kind = some .release → s.tamper.latch = true →
      exec (.streamFlow (be 1 i.val)) s = (s.touchForFlow i).answersNo 152 .tampered) ∧
    (∀ n j, st.state = .hold → st.kind = some .release → s.tamper.latch = false → st.job = some n → s.job n = some j →
      ((∀ se, s.session = some se → j.owner ≠ se.position) →
        exec (.streamFlow (be 1 i.val)) s = s.answersNo 152 .noSession) ∧
      (∀ se, s.session = some se → j.owner = se.position →
        (j.state = .stopping → exec (.streamFlow (be 1 i.val)) s = (s.used se).answersNo 152 .notPermitted) ∧
        (j.state ≠ .stopping → (s.cart.mono = false ∨ s.cart.colour = false ∧ s.documentColour st.document = true) →
          exec (.streamFlow (be 1 i.val)) s = (s.used se).answersNo 152 .tonerUnavailable))) ∧
    (∀ n : Nat, 4 ≤ n → n < 256 → exec (.streamFlow (be 1 n)) s = s.answersNo 152 .range ∧
      exec (.streamHold (be 1 n)) s = s.answersNo 153 .range) ∧
    (∀ ports, scanReady ports { st with state := .hold, idle := none } i = false) ∧
    (st.state ≠ .hold → exec (.streamFlow (be 1 i.val)) s = (s.touchForFlow i).answersNo 152 .busy) ∧
    (st.state = .flow → exec (.streamHold (be 1 i.val)) s =
      (s.setStream i { st with state := .hold, idle := none }).answersOk 153
        (be 1 st.half0.state.code ++ be 1 st.half1.state.code)) ∧
    (st.state ≠ .flow → exec (.streamHold (be 1 i.val)) s = s.answersNo 153 .busy)

/-- STREAM CLEAR of a halted stream whose halves are EMPTY: back to HOLD without its halt cause. A RELEASE stream keeps its resume
point; an ENCODE stream starts over, its document under a fresh key with its counts at zero (R140, R154; log 7 for the key). -/
def Obligations.ClearRestartsTheStream : Prop :=
  ∀ (s : State) (i : Fin 4) (n : Nat) (d : Document), s.Serving →
    let st := s.stream i
    let cleared : Stream := { st with
      state := .hold, haltCause := none, checkErrors := 0, intake := false, output := false, lastBand := false, stored := false }
    (st.state ≠ .halt ∨ st.half0.state ≠ .empty ∨ st.half1.state ≠ .empty →
      exec (.streamClear (be 1 i.val)) s = s.answersNo 154 .busy) ∧
    (st.state = .halt → st.half0.state = .empty → st.half1.state = .empty → st.document = some n →
      (s.document n = none → exec (.streamClear (be 1 i.val)) s = s.answersNo 154 .noDocument) ∧
      (s.document n = some d → st.kind = some .release → exec (.streamClear (be 1 i.val)) s =
        (s.setStream i cleared).answersOk 154 (be 2 st.nextBand ++ be 2 st.page)) ∧
      (∀ m j, s.document n = some d → st.kind = some .encode → st.job = some m → s.job m = some j →
        exec (.streamClear (be 1 i.val)) s =
          (((s.changeDocument n fun x => { x with
              key := Config.randomKey s.draws, pages := 0, bands := 0, colour := false, sizeClass := j.sizeClass }).setDraws
            (s.draws + 1)).setStream i { cleared with
              nextBand := 0, page := 0, bands := 0, pages := 0, seqBit := false, pageStart := true,
              pageClass := j.sizeClass }).answersOk 154 [0, 0, 0, 0]))

/-- STREAM RELEASE of a stream in HOLD, HALT or DONE with no half in hand: its record is as after reset, its window joins the wipe
list, and its job has no bound stream; else BUSY (R127, R155). -/
def Obligations.ReleaseUnbindsTheStream : Prop :=
  ∀ (s : State) (i : Fin 4), s.Serving →
    (∀ n : Nat, 4 ≤ n → n < 256 → exec (.streamRelease (be 1 n)) s = s.answersNo 155 .range) ∧
    ((s.stream i).state = .idle ∨ (s.stream i).state = .flow ∨ (s.stream i).inHand = true →
      exec (.streamRelease (be 1 i.val)) s = s.answersNo 155 .busy) ∧
    ((s.stream i).state ≠ .idle → (s.stream i).state ≠ .flow → (s.stream i).inHand = false →
      ∃ u : State, exec (.streamRelease (be 1 i.val)) s = u.answersOk 155 [] ∧ u.stream i = {} ∧
        (∀ k, k ≠ i → u.stream k = s.stream k) ∧
        u.pool.wipe = s.pool.wipe ++ ((s.stream i).window.map Window.range).toList ∧ u.pool.mem = s.pool.mem ∧
        u.pool.waiting = s.pool.waiting.filter (fun w => w.1 != i) ∧
        (∀ b blocks live, s.pool.fill = some (.half i b blocks live) → u.pool.fill = some (.half i b blocks false)) ∧
        ((∀ b blocks live, s.pool.fill ≠ some (.half i b blocks live)) → u.pool.fill = s.pool.fill) ∧
        (∀ n j, (s.stream i).job = some n → s.job n = some j → u.job n = some { j with stream := none }) ∧
        (∀ m, (s.stream i).job ≠ some m → u.job m = s.job m) ∧ u.store = s.store ∧ u.link = s.link ∧
        u.cipher = s.cipher ∧ s.SameBesidesImages u)

/-- A header on the scan port for an ENCODE stream in FLOW whose intake half is EMPTY and large enough: the payload is written into
that half and nowhere else (the bytes of an unfinished frame are free values, log 10); otherwise nothing is written, and by the
model's reading (log 37) nothing for a RELEASE stream. The complete good frame is stored: ACCEPT, the payload in the half and
zeros beyond it, the half FILLED with its header (its band and page number 0 until the grant, log 43), the stream's counts and marks, the document's colour mark, and an OPEN job RUNNING (R47, R128, R157, R158, R159). -/
def Obligations.GoodBandFramesAreStored : Prop :=
  (∀ (s : State) (h : ScanHeader), s.resetting = none → s.ports.scan = none →
    (∀ i : Fin 4, i.val = h.stream.toNat →
      let st := s.stream i
      st.kind = some .encode → st.state = .flow → (st.half st.intake).state = .empty → h.length.toNat ≤ st.halfSize →
      s.MemoryCanonical →
      ∃ u : State, exec (.scanArrivalBegin h) s = .next u.finish ∧
        u.ports = { s.ports with scan := some { header := h, writing := true } } ∧
        Memory.SameOutside s.pool.mem u.pool.mem (st.halfAddress st.intake) st.halfSize ∧ u.pool.wipe = s.pool.wipe ∧
        u.streams = s.streams ∧ u.jobs = s.jobs ∧ u.store = s.store ∧ u.link = s.link ∧ s.SameBesidesImages u) ∧
    ((∀ i : Fin 4, i.val = h.stream.toNat → (s.stream i).kind ≠ some .encode ∨ (s.stream i).state ≠ .flow ∨
        ((s.stream i).half (s.stream i).intake).state ≠ .empty ∨ (s.stream i).halfSize < h.length.toNat) →
      exec (.scanArrivalBegin h) s =
        .next (s.setPorts { s.ports with scan := some { header := h, writing := false } }).finish)) ∧
  (∀ (s : State) (i : Fin 4) (h : ScanHeader) (payload : List Byte) (check : BitVec 16), s.resetting = none →
    s.ports.scan = some { header := h, writing := true } → i.val = h.stream.toNat →
    scanCheckGood h (.complete payload check) = true → s.MemoryCanonical →
    let st := s.stream i
    st.kind = some .encode → st.state = .flow → st.lastBand = false → h.length.toNat ≤ st.halfSize →
    flagSeq h.flags = st.seqBit → st.bands < 65535 → st.HalfInPool st.intake →
    let size := if st.pageStart then h.sizeClass.toNat else st.pageClass
    let last := flagLastOfDocument h.flags
    let addr := st.halfAddress st.intake
    ∃ u : State, exec (.scanFrameEnd (.complete payload check)) s = .next u.finish ∧
      u.ports = { s.ports with scan := none, scanAnswer := some .accept } ∧
      u.stream i = { st.setHalf st.intake { state := .filled, header := some {
          flags := (h.flags &&& 0x1E#8) ||| (if last then 0x04#8 else 0), sizeClass := size, length := h.length.toNat,
          band := 0, page := 0 } } with
        pageClass := size, pageStart := flagLastOfPage h.flags || last, seqBit := !st.seqBit, bands := st.bands + 1,
        checkErrors := 0, intake := st.following st.intake, lastBand := last, idle := if last then none else some 0,
        stored := true } ∧
      (∀ k, k ≠ i → u.stream k = s.stream k) ∧
      u.pool.mem.readBytes addr payload.length = payload ∧
      (∀ a, addr + payload.length ≤ a → a < addr + st.halfSize → u.pool.mem.read a = 0) ∧
      Memory.SameOutside s.pool.mem u.pool.mem addr st.halfSize ∧
      (∀ d x, st.document = some d → s.document d = some x → u.document d = some { x with
        colour := x.colour || flagColour h.flags,
        sizeClass := if st.pageStart = true ∧ st.stored = false then h.sizeClass.toNat else x.sizeClass }) ∧
      (∀ n j, st.job = some n → s.job n = some j →
        u.job n = some (if j.state = .opened then { j with state := .running } else j)) ∧
      (∀ m, st.job ≠ some m → u.job m = s.job m) ∧ u.link = s.link ∧ u.pool.wipe = s.pool.wipe ∧ s.SameBesidesImages u)

/-- A band frame that is not stored: REFUSE for an IDLE stream or a number above 3, counted nowhere; REFUSE, counted, for a stream in
HOLD, HALT or DONE or with its last-band mark set; a failed check or a gap counts towards the three that halt the stream; one too long
halts it with OVERSIZE; a repeated frame is accepted again without effect; a band that found no room halts with OVERRUN, and a
65,536th with OVERSIZE. In every case the half it was written into is zero and no other byte changes (R128, R157, R158). The model's
own reading (log 37): a RELEASE stream in FLOW refuses, counted, a good frame that fits. -/
def Obligations.OtherBandFramesLeaveNothing : Prop :=
  ∀ (s : State) (a : ScanArrival) (tail : ScanTail), s.resetting = none → s.ports.scan = some a →
    (4 ≤ a.header.stream.toNat →
      exec (.scanFrameEnd tail) s = .next (s.setPorts { s.ports with scan := none, scanAnswer := some .refuse }).finish ∧
      exec .scanGapExpiry s = .next (s.setPorts { s.ports with scan := none, scanAnswer := some .refuse }).finish) ∧
    (∀ i : Fin 4, i.val = a.header.stream.toNat →
      let st := s.stream i
      let addr := st.halfAddress st.intake
      let good := scanCheckGood a.header tail
      let answers (x : Answer) (u : State) : Prop := exec (.scanFrameEnd tail) s = .next u.finish ∧
        u.ports.scan = none ∧ u.ports.scanAnswer = some x ∧ u.ports.imgAnswer = s.ports.imgAnswer ∧
        u.jobs = s.jobs ∧ u.store = s.store ∧
        (∀ k, k ≠ i → u.stream k = s.stream k) ∧ s.SameBesidesImages u ∧
        (a.writing = false → u.pool.mem = s.pool.mem) ∧ Memory.SameOutside s.pool.mem u.pool.mem addr st.halfSize ∧
        (a.writing = true → st.HalfInPool st.intake → ∀ k, addr ≤ k → k < addr + st.halfSize → u.pool.mem.read k = 0)
      let counted (u : State) : Prop := u.stream i = { st with refused := min 65535 (st.refused + 1) } ∧
        u.link = s.link ∧ u.ports.img = s.ports.img
      let halted (cause : HaltCause) (u : State) : Prop := (u.stream i).state = .halt ∧ (u.stream i).haltCause = some cause
      (st.state = .idle → ∃ u : State, answers .refuse u ∧ exec .scanGapExpiry s = .next u.finish ∧ u.stream i = st ∧
        u.link = s.link) ∧
      (st.state = .hold ∨ st.state = .halt ∨ st.state = .done ∨ (st.state = .flow ∧ st.lastBand = true) →
        ∃ u : State, answers .refuse u ∧ exec .scanGapExpiry s = .next u.finish ∧ counted u) ∧
      (st.state = .flow → st.lastBand = false →
        (good = false → ∃ u : State, answers .refuseCheck u ∧ exec .scanGapExpiry s = .next u.finish ∧
          (st.checkErrors < 2 → u.stream i = { st with checkErrors := st.checkErrors + 1 } ∧ u.link = s.link) ∧
          (2 ≤ st.checkErrors → halted .check u)) ∧
        (good = true → st.halfSize < a.header.length.toNat → ∃ u : State, answers .refuse u ∧ halted .oversize u) ∧
        (good = true → a.header.length.toNat ≤ st.halfSize → st.kind ≠ some .encode →
          ∃ u : State, answers .refuse u ∧ counted u) ∧
        (good = true → a.header.length.toNat ≤ st.halfSize → st.kind = some .encode →
          (flagSeq a.header.flags ≠ st.seqBit → ∃ u : State, answers .accept u ∧ u.link = s.link ∧
            u.stream i = { st with duplicates := min 65535 (st.duplicates + 1), checkErrors := 0 }) ∧
          (flagSeq a.header.flags = st.seqBit → a.writing = false → ∃ u : State, answers .refuse u ∧ halted .overrun u) ∧
          (flagSeq a.header.flags = st.seqBit → a.writing = true → 65535 ≤ st.bands →
            ∃ u : State, answers .refuse u ∧ halted .oversize u))))

/-- A header on the image link goes to the RELEASE stream bound to its document, and a good frame with the next band's number is
stored: answer ACCEPT, the ciphertext in the half, the half FILLED with header and tag, and the stream one band further
(R47, R128, R161). -/
def Obligations.GoodImageFramesAreStored : Prop :=
  ∀ (s : State) (i : Fin 4) (h : ImgHeader), s.resetting = none → s.MemoryCanonical →
    let st := s.stream i
    let addr := st.halfAddress st.intake
    st.kind = some .release → st.document = some h.document.toNat → st.state = .flow → h.length.toNat ≤ st.halfSize →
    h.band.toNat = st.nextBand →
    (s.ports.img = none → (∀ k, k < i → (s.stream k).kind ≠ some .release ∨ (s.stream k).document ≠ st.document) →
      (st.half st.intake).state = .empty →
      ∃ u : State, exec (.imgArrivalBegin h) s = .next u.finish ∧
        u.ports = { s.ports with img := some { header := h, stream := some i, writing := true } } ∧
        Memory.SameOutside s.pool.mem u.pool.mem addr st.halfSize ∧ u.streams = s.streams ∧ u.jobs = s.jobs ∧
        u.store = s.store ∧ u.link = s.link ∧ s.SameBesidesImages u) ∧
    (∀ (ciphertext : List Byte) (tag : BitVec 64) (check : BitVec 16) (d : Document),
      s.ports.img = some { header := h, stream := some i, writing := true } → st.lastBand = false → st.HalfInPool st.intake →
      imgCheckGood h (.complete ciphertext tag check) = true → s.document h.document.toNat = some d →
      let last : Bool := decide (h.band.toNat + 1 = d.bands)
      ∃ u : State, exec (.imgFrameEnd (.complete ciphertext tag check)) s = .next u.finish ∧
        u.ports = { s.ports with img := none, imgAnswer := some .accept } ∧
        u.stream i = { st.setHalf st.intake { state := .filled, tag := some tag, header := some {
            flags := h.flags, sizeClass := h.sizeClass.toNat, length := h.length.toNat, band := h.band.toNat,
            page := h.page.toNat } } with
          nextBand := min 65535 (st.nextBand + 1), bands := min 65535 (st.bands + 1), checkErrors := 0,
          intake := st.following st.intake, lastBand := last, idle := if last then none else some 0, stored := true } ∧
        (∀ k, k ≠ i → u.stream k = s.stream k) ∧ u.pool.mem.readBytes addr ciphertext.length = ciphertext ∧
        (∀ a, addr + ciphertext.length ≤ a → a < addr + st.halfSize → u.pool.mem.read a = 0) ∧
        Memory.SameOutside s.pool.mem u.pool.mem addr st.halfSize ∧
        (∀ n j, st.job = some n → s.job n = some j →
          u.job n = some (if j.state = .opened then { j with state := .running } else j)) ∧
        (∀ m, st.job ≠ some m → u.job m = s.job m) ∧ u.store = s.store ∧ u.link = s.link ∧ s.SameBesidesImages u)

/-- An image frame that is not stored: REFUSE, counted nowhere, where no RELEASE stream is bound to its document; REFUSE, counted, for a
stream in HALT or DONE; a failed check or a gap counts towards the three that halt it; one too long halts it with OVERSIZE; the band
before the next is accepted again without effect; any other number halts it with SEQUENCE; the next band in HOLD, with the
last-band mark set or with no room is refused and counted. In every case the half it was written into is zero and no other byte
changes (R128, R161). The model's own choice (log 27): the stream is the one found at the frame's beginning, while it is still bound to
the document. -/
def Obligations.OtherImageFramesLeaveNothing : Prop :=
  ∀ (s : State) (a : ImgArrival) (tail : ImgTail), s.resetting = none → s.ports.img = some a →
    ((∀ i : Fin 4, a.stream = some i → (s.stream i).kind ≠ some .release ∨
        (s.stream i).document ≠ some a.header.document.toNat) →
      exec (.imgFrameEnd tail) s = .next (s.setPorts { s.ports with img := none, imgAnswer := some .refuse }).finish ∧
      exec .imgGapExpiry s = .next (s.setPorts { s.ports with img := none, imgAnswer := some .refuse }).finish) ∧
    (∀ i : Fin 4, a.stream = some i → (s.stream i).kind = some .release →
      (s.stream i).document = some a.header.document.toNat →
      let st := s.stream i
      let addr := st.halfAddress st.intake
      let good := imgCheckGood a.header tail
      let answers (x : Answer) (u : State) : Prop := exec (.imgFrameEnd tail) s = .next u.finish ∧
        u.ports.img = none ∧ u.ports.imgAnswer = some x ∧ u.ports.scanAnswer = s.ports.scanAnswer ∧
        u.jobs = s.jobs ∧ u.store = s.store ∧
        (∀ k, k ≠ i → u.stream k = s.stream k) ∧ s.SameBesidesImages u ∧
        (a.writing = false → u.pool.mem = s.pool.mem) ∧ Memory.SameOutside s.pool.mem u.pool.mem addr st.halfSize ∧
        (a.writing = true → st.HalfInPool st.intake → ∀ k, addr ≤ k → k < addr + st.halfSize → u.pool.mem.read k = 0)
      let counted (u : State) : Prop := u.stream i = { st with refused := min 65535 (st.refused + 1) } ∧
        u.link = s.link ∧ u.ports.scan = s.ports.scan
      let halted (cause : HaltCause) (u : State) : Prop := (u.stream i).state = .halt ∧ (u.stream i).haltCause = some cause
      (st.state = .halt ∨ st.state = .done → ∃ u : State, answers .refuse u ∧ exec .imgGapExpiry s = .next u.finish ∧
        counted u) ∧
      (st.state = .hold ∨ st.state = .flow →
        (good = false → ∃ u : State, answers .refuseCheck u ∧ exec .imgGapExpiry s = .next u.finish ∧
          (st.checkErrors < 2 → u.stream i = { st with checkErrors := st.checkErrors + 1 } ∧ u.link = s.link) ∧
          (2 ≤ st.checkErrors → halted .check u)) ∧
        (good = true → st.halfSize < a.header.length.toNat → ∃ u : State, answers .refuse u ∧ halted .oversize u) ∧
        (good = true → a.header.length.toNat ≤ st.halfSize →
          (a.header.band.toNat + 1 = st.nextBand → ∃ u : State, answers .accept u ∧ u.link = s.link ∧
            u.stream i = { st with duplicates := min 65535 (st.duplicates + 1), checkErrors := 0 }) ∧
          (a.header.band.toNat + 1 ≠ st.nextBand → a.header.band.toNat ≠ st.nextBand →
            ∃ u : State, answers .refuse u ∧ halted .sequence u) ∧
          (a.header.band.toNat = st.nextBand → st.state = .hold ∨ st.lastBand = true ∨ a.writing = false →
            ∃ u : State, answers .refuse u ∧ counted u))))

/-! ## The cipher unit and the sendings -/

/-- The cipher unit completes: an ENCODE half is encrypted in place under its document's key and goes to SENDING with its band tag;
a RELEASE half whose tag agrees is decrypted in place and goes to SENDING, and one whose tag does not halts the stream with
AUTH; the work on a halted stream is discarded, and the half waits for its fill, shown FILLED with its header until then (the
model's own choice, log 14). The functions are free values (log 8) that combine by XOR (log 9), so that
combining twice gives the bytes back (R131, R163 to R165). -/
def Obligations.CipherEncodesAndReleases : Prop :=
  (∀ (key : Key) (d band k : Nat) (xs : List Byte), combine key d band k (combine key d band k xs) = xs) ∧
  ∀ (s : State) (i : Fin 4) (b : Bool) (h : BandHeader) (n : Nat) (d : Document), s.resetting = none → s.MemoryCanonical →
    s.cipher.work = some { stream := i, half := b } →
    let st := s.stream i
    let half := st.half b
    let addr := st.halfAddress b
    let len := (h.length + 15) / 16 * 16
    let bytes := s.pool.mem.readBytes addr len
    let result := combine d.key n h.band 0 bytes
    half.header = some h → st.document = some n → s.document n = some d → len ≤ st.halfSize → st.HalfInPool b →
    (st.state ≠ .halt → st.kind = some .encode → ∃ u : State, exec .cipherEncodeComplete s = .next u.finish ∧
      u.cipher = { s.cipher with work := none } ∧
      u.stream i = st.setHalf b { half with state := .sending, tag := some (bandTag d.key n h result) } ∧
      u.pool.mem.readBytes addr len = result ∧ Memory.SameOutside s.pool.mem u.pool.mem addr len ∧
      (∀ k, k ≠ i → u.stream k = s.stream k) ∧ u.jobs = s.jobs ∧ u.store = s.store ∧ u.link = s.link ∧
      s.SameBesidesImages u) ∧
    (st.state ≠ .halt → st.kind = some .release → half.tag = some (bandTag d.key n h bytes) →
      ∃ u : State, exec .cipherReleaseComplete s = .next u.finish ∧ u.cipher = { s.cipher with work := none } ∧
        u.stream i = { st.setHalf b { half with state := .sending } with lastSent := some h.band } ∧
        u.pool.mem.readBytes addr len = result ∧ Memory.SameOutside s.pool.mem u.pool.mem addr len ∧
        (∀ k, k ≠ i → u.stream k = s.stream k) ∧ u.jobs = s.jobs ∧ u.store = s.store ∧ u.link = s.link ∧
        s.SameBesidesImages u) ∧
    (st.holdOrFlow = true → st.kind = some .release → half.tag ≠ some (bandTag d.key n h bytes) →
      ∃ u : State, exec .cipherReleaseComplete s = .next u.finish ∧ u.cipher = { s.cipher with work := none } ∧
        (u.stream i).state = .halt ∧ (u.stream i).haltCause = some .auth ∧ u.pool.mem = s.pool.mem ∧ u.jobs = s.jobs ∧
        u.store = s.store ∧ s.SameBesidesImages u) ∧
    (st.state = .halt → ∃ u : State,
      (st.kind = some .encode → exec .cipherEncodeComplete s = .next u.finish) ∧
      (st.kind = some .release → exec .cipherReleaseComplete s = .next u.finish) ∧
      u.cipher = { s.cipher with work := none } ∧
      u.stream i = st.setHalf b { half with state := .filled, waiting := true } ∧
      u.pool.waiting = s.pool.waiting ++ [(i, b)] ∧ u.pool.mem = s.pool.mem ∧ u.jobs = s.jobs ∧ u.store = s.store ∧
      u.link = s.link ∧ s.SameBesidesImages u)

/-- The sending of an ENCODE half completes: the half is zero and EMPTY, the document has one band more, and a last-of-page band one
page more, charged at the scan rate of its size class to the SCAN job by R41 and counted by R44; a last-of-document band in HOLD
or FLOW makes the stream DONE and marks the job's scan complete (R31, R41, R44, R128, R166). -/
def Obligations.ImageSendingsCountBandsAndPages : Prop :=
  ∀ (s : State) (i : Fin 4) (b : Bool) (h : BandHeader) (n m : Nat) (j : Job) (a : Account), s.resetting = none →
    s.BindingsMatch → s.sendingOn .encode = some (i, b) →
    let st := s.stream i
    (st.half b).header = some h → st.document = some n → st.job = some m → s.job m = some j → s.account j.owner = some a →
    st.HalfInPool b →
    let page := flagLastOfPage h.flags
    let done := flagLastOfDocument h.flags && st.holdOrFlow
    let c := s.rates.scanRate h.sizeClass
    let d := drawOf c j.holdRemaining (a.balance - s.totalHolds j.owner)
    ∃ (u : State) (k : Job), exec .imgSendComplete s = .next u.finish ∧ u.job m = some k ∧
      u.stream i = { st.setHalf b {} with
        pages := if page then min 65535 (st.pages + 1) else st.pages
        state := if done then .done else st.state
        idle := if done then none else st.idle } ∧
      (∀ x, st.halfAddress b ≤ x → x < st.halfAddress b + st.halfSize → u.pool.mem.read x = 0) ∧
      Memory.SameOutside s.pool.mem u.pool.mem (st.halfAddress b) st.halfSize ∧
      u.store = { s.store with docs := s.store.docs.map fun x => if x.number = n then { x with
        bands := min 65535 (x.bands + 1), pages := if page then min 65535 (x.pages + 1) else x.pages } else x } ∧
      k.scanComplete = (j.scanComplete || done) ∧
      (page = false → k.scanPages = j.scanPages ∧ k.pointsCharged = j.pointsCharged ∧ u.accounts = s.accounts ∧
        u.house = s.house ∧ u.meters = s.meters) ∧
      (page = true → 8000000 ≤ j.scanPages → k.scanPages = j.scanPages ∧ k.pointsCharged = j.pointsCharged ∧
        u.accounts = s.accounts ∧ u.house = s.house.addAll 0 0 1 c ∧
        u.meters = s.meters.addAll { scanPages := 1, pointsCharged := c }) ∧
      (page = true → j.scanPages < 8000000 → k.scanPages = j.scanPages + 1 ∧ k.pointsCharged = j.pointsCharged + c ∧
        k.holdRemaining = j.holdRemaining - d.hold ∧ k.pointsDrawn = j.pointsDrawn + d.balance ∧
        k.pointsArrears = j.pointsArrears + d.arrears ∧ u.house = s.house ∧
        u.meters = s.meters.addAll { scanPages := 1, pointsCharged := c, arrearsPoints := d.arrears } ∧
        ∃ x, u.account j.owner = some x ∧ x.balance = a.balance - d.balance ∧
          x.arrears = min 16000000 (a.arrears + d.arrears) ∧ x.counters = a.counters.addAll 0 0 1 c) ∧
      (∀ q, q ≠ j.owner → u.account q = s.account q) ∧ u.session = s.session ∧ u.rates = s.rates ∧
      u.settings = s.settings ∧ u.queue = s.queue ∧ u.cart = s.cart ∧ u.tamper = s.tamper

/-- The sending of a RELEASE half completes: the half is zero and EMPTY; a last-of-page band raises pages and page number by 1, in HALT
too (log 15); the last band of the document, in HOLD or FLOW, makes the stream DONE with its notice (R128, R167). -/
def Obligations.VideoSendingsEndTheStream : Prop :=
  ∀ (s : State) (i : Fin 4) (b : Bool) (h : BandHeader), s.resetting = none → s.sendingOn .release = some (i, b) →
    let st := s.stream i
    (st.half b).header = some h → st.HalfInPool b →
    let page := flagLastOfPage h.flags
    let done := (s.isLastBand st.document h.band) && st.holdOrFlow
    let pages := if page then min 65535 (st.pages + 1) else st.pages
    ∃ u : State, exec .videoSendComplete s = .next u.finish ∧
      u.stream i = { st.setHalf b {} with
        pages := pages
        page := if page then min 65535 (st.page + 1) else st.page
        state := if done then .done else st.state
        idle := if done then none else st.idle } ∧
      (∀ k, k ≠ i → u.stream k = s.stream k) ∧
      (∀ x, st.halfAddress b ≤ x → x < st.halfAddress b + st.halfSize → u.pool.mem.read x = 0) ∧
      Memory.SameOutside s.pool.mem u.pool.mem (st.halfAddress b) st.halfSize ∧
      u.link = (if done then s.link.post (.streamDone
        { stream := i, job := st.job, document := st.document, bands := st.bands, pages := pages,
          duplicates := st.duplicates, refused := st.refused }) else s.link) ∧
      u.jobs = s.jobs ∧ u.store = s.store ∧ u.cipher = s.cipher ∧ u.ports = s.ports ∧ s.SameBesidesImages u

/-- The stream idle expiry halts a stream in HOLD or FLOW with cause IDLE: its FILLED halves wait for the fill engine, a RELEASE
stream's next band is one past the last it sent, and STREAM_HALT is posted; nothing is zeroed yet (R131, R160, R168). -/
def Obligations.IdleExpiryHaltsTheStream : Prop :=
  ∀ (s : State) (i : Fin 4) (t : Nat), s.resetting = none →
    let st := s.stream i
    st.idle = some t → st.holdOrFlow = true → s.ports.writingInto i = none →
    ∃ (u : State) (r : HaltReport), exec (.streamIdleExpiry i) s = .next u.finish ∧
      (u.stream i).state = .halt ∧ (u.stream i).haltCause = some .idle ∧ (u.stream i).idle = none ∧
      (∀ b, (st.half b).state = .filled → (u.stream i).half b = { st.half b with waiting := true } ∧ (i, b) ∈ u.pool.waiting) ∧
      (∀ b, (st.half b).state ≠ .filled → (u.stream i).half b = st.half b) ∧
      (st.kind = some .release → (u.stream i).nextBand = (st.lastSent.map (· + 1)).getD 0) ∧
      (st.kind ≠ some .release → (u.stream i).nextBand = st.nextBand ∧ (u.stream i).page = st.page) ∧
      (u.stream i).bands = st.bands ∧ (u.stream i).pages = st.pages ∧ (u.stream i).window = st.window ∧
      (u.stream i).job = st.job ∧ (u.stream i).document = st.document ∧
      u.link = s.link.post (.streamHalt r) ∧ r.stream = i ∧ r.cause = .idle ∧ r.bands = st.bands ∧ r.pages = st.pages ∧
      (∀ k, k ≠ i → u.stream k = s.stream k) ∧ u.pool.mem = s.pool.mem ∧ u.pool.wipe = s.pool.wipe ∧ u.jobs = s.jobs ∧
      u.store = s.store ∧ u.cipher = s.cipher ∧ s.SameBesidesImages u

/-! ## The buffer pool (chapter 08) -/

/-- The fill engine's completions zero exactly the blocks they name: a half is EMPTY again while its halt fill stands; the oldest
range leaves the wipe list, and the last one posts WIPE_DONE; the full fill leaves every byte zero and posts WIPE_DONE, and with no
window bound and no range listed, as a supply reset leaves them, every block is FREE after it, all 512
(R127, R129 to R131, R133). -/
def Obligations.FillsZeroTheirBlocks : Prop :=
  ∀ s : State, s.resetting = none →
    (∀ i b blocks live, s.pool.fill = some (.half i b blocks live) →
      ∃ u : State, exec .haltFillHalfComplete s = .next u.finish ∧
        (∀ a, blocks.first * 64 ≤ a → a < (blocks.first + blocks.count) * 64 → u.pool.mem.read a = 0) ∧
        Memory.SameOutside s.pool.mem u.pool.mem (blocks.first * 64) (blocks.count * 64) ∧
        u.pool = { s.pool with mem := u.pool.mem, fill := none } ∧
        (live = true → u.stream i = (s.stream i).setHalf b {}) ∧ (live = false → u.streams = s.streams) ∧
        (∀ k, k ≠ i → u.stream k = s.stream k) ∧ u.jobs = s.jobs ∧ u.store = s.store ∧ u.link = s.link ∧
        s.SameBesidesImages u) ∧
    (∀ r rest, s.pool.fill = some .range → s.pool.wipe = r :: rest →
      ∃ u : State, exec .wipeRangeComplete s = .next u.finish ∧
        (∀ a, r.first * 64 ≤ a → a < (r.first + r.count) * 64 → u.pool.mem.read a = 0) ∧
        Memory.SameOutside s.pool.mem u.pool.mem (r.first * 64) (r.count * 64) ∧
        u.pool = { s.pool with mem := u.pool.mem, fill := none, wipe := rest } ∧
        u.link = (if rest = [] then s.link.post (.wipeDone .list (freeCount u.pool s.streams)) else s.link) ∧
        u.streams = s.streams ∧ u.jobs = s.jobs ∧ u.store = s.store ∧ s.SameBesidesImages u) ∧
    (s.pool.fill = some .full →
      ∃ u : State, exec .fullFillComplete s = .next u.finish ∧ (∀ a, u.pool.mem.read a = 0) ∧
        u.pool = { s.pool with mem := [], fill := none, underReset := false } ∧
        u.link = s.link.post (.wipeDone .reset (freeCount u.pool s.streams)) ∧
        ((∀ i, (s.stream i).window = none) → s.pool.wipe = [] →
          (∀ b, b < 512 → blockOwner u.pool u.streams b = .free) ∧ freeCount u.pool u.streams = 512) ∧
        u.streams = s.streams ∧ u.jobs = s.jobs ∧ u.store = s.store ∧ s.SameBesidesImages u)

/-! ## Documents and tamper (chapter 09) -/

/-- DOCUMENT ERASE of a STORED unbound document that the session's account owns or an admin names: the record leaves the store, its
key with it; a WRITING or bound one is IN_USE, another's NO_DOCUMENT (R137, R142, R143). -/
def Obligations.DocumentEraseForgetsTheDocument : Prop :=
  ∀ (s : State) (se : Session) (n : Nat) (d : Document), s.Serving → n < 65536 →
    (s.session = none → exec (.documentErase (be 2 n)) s = s.answersNo 157 .noSession) ∧
    (s.session = some se → n = 0 → exec (.documentErase (be 2 n)) s = (s.used se).answersNo 157 .range) ∧
    (s.session = some se → 1 ≤ n → s.document n = none →
      exec (.documentErase (be 2 n)) s = (s.used se).answersNo 157 .noDocument) ∧
    (s.session = some se → 1 ≤ n → s.document n = some d →
    let docs := s.store.docs.filter fun x => x.number != n
    (s.isAdmin = true ∨ d.owner = se.position → d.state = .stored → d.job = none →
      exec (.documentErase (be 2 n)) s = ((s.used se).setStore { s.store with docs := docs }).answersOk 157
        (be 2 n ++ be 1 (docs.countP fun x => x.owner == d.owner)) ∧
      (((s.used se).setStore { s.store with docs := docs }).document n = none)) ∧
    (s.isAdmin = true ∨ d.owner = se.position → d.state = .writing ∨ d.job.isSome = true →
      exec (.documentErase (be 2 n)) s = (s.used se).answersNo 157 .inUse) ∧
    (s.isAdmin = false → d.owner ≠ se.position → exec (.documentErase (be 2 n)) s = (s.used se).answersNo 157 .noDocument))

/-- A tamper event: latch set, every document erased, TAMPER EVENTS one more, every stream in HOLD, FLOW or DONE halted with cause
TAMPER, every SCAN and BOX_PRINT job in OPEN or RUNNING stopped, the scan complete marks cleared, the session ended; no money and
no byte of the pool changes. A release of the input only changes the monitor's view of it; TAMPER CLEAR clears the latch while
the input is released, and is BUSY while it is asserted (R146, R148). -/
def Obligations.TamperErasesAndHalts : Prop :=
  ∀ s : State,
    (s.resetting = none → s.tamper.input = false → s.jobs.InOrder → ∃ u : State, exec .tamperEvent s = .next u.finish ∧
      u.tamper = { latch := true, input := true } ∧ u.store = { s.store with docs := [] } ∧
      u.meters = { s.meters with tamperEvents := s.meters.tamperEvents.add 1 } ∧ u.session = none ∧
      (∀ i, (s.stream i).holdOrFlow = true ∨ (s.stream i).state = .done →
        (u.stream i).state = .halt ∧ (u.stream i).haltCause = some .tamper) ∧
      (∀ i, (s.stream i).holdOrFlow = false → (s.stream i).state ≠ .done → u.stream i = s.stream i) ∧
      (∀ n j, s.job n = some j → u.job n = some { (if (j.kind = .scan ∨ j.kind = .boxPrint) ∧
          (j.state = .opened ∨ j.state = .running) then { j with state := .stopping, stopCause := some .tamper } else j) with
        scanComplete := false }) ∧
      u.accounts = s.accounts ∧ u.house = s.house ∧ u.rates = s.rates ∧ u.settings = s.settings ∧ u.queue = s.queue ∧
      u.cart = s.cart ∧ u.pool.mem = s.pool.mem ∧ u.pool.wipe = s.pool.wipe) ∧
    exec .tamperRelease s = .next (s.setTamper { s.tamper with input := false }) ∧
    (s.Serving → s.isAdmin = false → exec (.tamperClear []) s = s.answersNo 159 .notPermitted) ∧
    (∀ se, s.Serving → s.session = some se → s.isAdmin = true →
      (s.tamper.input = false → exec (.tamperClear []) s =
        ((s.used se).setTamper { latch := false, input := false }).answersOk 159 [if s.tamper.latch then 1 else 0]) ∧
      (s.tamper.input = true → exec (.tamperClear []) s = (s.used se).answersNo 159 .busy))

/-! ## Settings and resets (chapter 11) -/

/-- SETTING SET takes the value clamped to the setting's range, the stop level never above the caution level, and answers with the
value before, the value taken, whether it was clamped, and the stop level after; no balance, rate or byte of the pool changes, and
no document but those of the jobs that a lowered drain limit removes (R53, R54, R176). -/
def Obligations.SettingsAreClamped : Prop :=
  ∀ (s : State) (se : Session) (k : Fin 13) (v : Nat), s.Serving → s.session = some se → s.isAdmin = true →
    v < 4294967296 → (k = 11 → v ≤ 1) → s.settings.InRange →
    let top : Nat := match k with
      | 0 => 1000000 | 1 => s.settings.caution | 2 => 100000 | 3 => 900 | 4 => 4000 | 5 => 5000 | 6 => 15 | 7 => 60
      | 8 => 300 | 9 => 30000 | 10 => 600 | 11 => 1 | 12 => 64
    let bottom : Nat := match k with
      | 0 => 0 | 1 => 0 | 2 => 0 | 3 => 10 | 4 => 0 | 5 => 50 | 6 => 1 | 7 => 1 | 8 => 10 | 9 => 200 | 10 => 10 | 11 => 0
      | 12 => 1
    let taken := max bottom (min top v)
    ∃ u : State, exec (.settingSet (be 1 k.val ++ be 4 v)) s = u.answersOk 160
        (be 1 k.val ++ be 4 (s.settings.get k) ++ be 4 taken ++ [if taken = v then 0 else 1] ++ be 4 u.settings.stop) ∧
      u.settings.get k = taken ∧
      (∀ m, m ≠ k → ¬ (k = 0 ∧ m = 1) → u.settings.get m = s.settings.get m) ∧
      (k = 0 → u.settings.stop = min s.settings.stop taken) ∧ u.settings.InRange ∧
      (taken = s.settings.get k → u = s.used se) ∧
      (∀ q, (u.account q).map (fun a => (a.balance, a.arrears, a.pin, a.state)) =
        (s.account q).map fun a => (a.balance, a.arrears, a.pin, a.state)) ∧
      (k ≠ 10 → u.store = s.store) ∧
      (∀ d x, s.document d = some x → (∀ n j, s.job n = some j → j.document ≠ some d) → u.document d = some x) ∧
      u.house = s.house ∧ u.rates = s.rates ∧ u.queue = s.queue ∧ u.tamper = s.tamper ∧ u.pool.mem = s.pool.mem

/-- FACTORY CLEAR with no job in the table: one ADMIN account, user number 1 without a PIN, default rates and settings, counters and
lists empty, no document and no session; with a job it is refused IN_USE (R4, R20, R179). -/
def Obligations.FactoryClearRestoresDefaults : Prop :=
  ∀ (s : State) (se : Session), s.Serving → s.session = some se → s.isAdmin = true →
    (s.jobs.jobs ≠ [] → exec (.factoryClear []) s = (s.used se).answersNo 163 .inUse) ∧
    (s.jobs.jobs = [] → ∃ u : State, exec (.factoryClear []) s = u.answersOk 163 (be 1 s.store.docs.length) ∧
      u.accounts = [(1, { userNumber := 1, role := .admin, state := .active, pin := none, failures := 0, colourRight := .full,
                          boxRight := true, balance := 0, arrears := 0, stage := .stopped, counters := {} })] ∧
      u.house = {} ∧ u.session = none ∧ u.rates = defaultRates ∧
      u.settings = { caution := 2000, stop := 100, hysteresis := 200, sessionIdle := 90, freeCoverage := 200,
                     verifyInterval := 500, failLimit := 6, recheckPeriod := 5, lowMark := 80, streamIdle := 3000,
                     drainLimit := 120, boxPolicy := .keep, ownerCap := 16 } ∧
      u.store.docs = [] ∧ u.store.lastNumber = s.store.lastNumber ∧
      ((∀ i, (s.slot i).meetsLimit 6 = false) → u.meters = {} ∧ u.cart.rejectList = [] ∧ u.cart.snapshots = []) ∧
      u.jobs = s.jobs ∧ u.queue = s.queue ∧ u.tamper = s.tamper ∧ u.pool.mem = s.pool.mem ∧ u.pool.wipe = s.pool.wipe)

/-- A supply reset clears what is volatile and keeps what is retained, and its end identifies the present cartridges, starts the
full fill and posts RESTART. In between nothing is received on any line; presence is noted, and a tamper event sets the latch, erases
the documents, counts on TAMPER EVENTS, and is told by a TAMPER notice after RESTART with the counts of all events so taken
(R4, R36, R73, R87, R88, R133, R145, R147, R150, R180; logs 12, 23 and 24 name the model's own choices). -/
def Obligations.ResetsKeepRetainedMemory : Prop :=
  ∀ s : State,
    (∀ cause, ∃ t : State, exec (.supplyReset cause) s = .next t ∧
      t.session = none ∧ t.jobs = { jobs := [], lastNumber := s.jobs.lastNumber } ∧
      t.queue = { entries := [], hold := false, taking := false } ∧ (∀ i, t.stream i = {}) ∧
      t.ports.scan = none ∧ t.ports.img = none ∧ t.cipher.work = none ∧ t.cart.transaction = none ∧
      t.cart.mono = false ∧ t.cart.colour = false ∧
      (∀ i, t.slot i = { present := (s.slot i).present, retainedSerial := (s.slot i).retainedSerial,
                         retainedFails := (s.slot i).retainedFails }) ∧
      t.pool.underReset = true ∧ t.pool.wipe = [] ∧ t.pool.fill = none ∧ t.pool.waiting = [] ∧
      t.link.requestSlot = none ∧ t.link.refusalSlot = none ∧ t.link.tx = .idle ∧ t.link.notices = [] ∧
      t.accounts = s.accounts.map (fun c => (c.1, { c.2 with stage :=
        if s.settings.caution ≤ c.2.balance then .full
        else if s.settings.stop ≤ c.2.balance then .limited else .stopped })) ∧
      t.store = { s.store with docs :=
        (s.store.docs.filter fun x => x.state == .stored).map fun x => { x with job := none } } ∧
      t.house = s.house ∧ t.rates = s.rates ∧ t.settings = s.settings ∧ t.meters = s.meters ∧ t.tamper = s.tamper ∧
      t.cart.rejectList = s.cart.rejectList ∧ t.cart.snapshots = s.cart.snapshots ∧ t.pending = s.pending ∧
      (s.resetting = none → t.resetting = some
        { cause := cause, tamperEvents := 0, tamperErased := 0,
          writingErased := (s.store.docs.filter fun x => x.state == .writing).length })) ∧
    (∀ r, s.resetting = some r → ∃ u : State, exec .resetEnd s = .next u.finish ∧ u.resetting = none ∧
      (∀ i, u.slot i = if (s.slot i).present then { s.slot i with
        state := .identifying, requests := { (s.slot i).requests with identify := true } } else s.slot i) ∧
      u.pool = { s.pool with fill := some .full } ∧
      (r.tamperEvents = 0 → u.link = s.link.post
        (.restart r.cause r.writingErased s.meters.tamperEvents s.tamper.latch)) ∧
      (r.tamperEvents ≠ 0 → u.link = (s.link.post
        (.restart r.cause r.writingErased s.meters.tamperEvents s.tamper.latch)).post (.tamper
          { events := r.tamperEvents, erased := r.tamperErased, sessionEnded := false, meter := s.meters.tamperEvents,
            latch := s.tamper.latch })) ∧
      u.accounts = s.accounts ∧ u.jobs = s.jobs ∧ u.store = s.store ∧ u.meters = s.meters ∧ u.tamper = s.tamper ∧
      u.streams = s.streams ∧ u.settings = s.settings ∧ u.rates = s.rates ∧ u.queue = s.queue) ∧
    (∀ r, s.resetting = some r →
      (s.tamper.input = true → exec .tamperEvent s = .next s) ∧
      (s.tamper.input = false → exec .tamperEvent s = .next ((((s.setTamper { latch := true, input := true }).setStore
        { s.store with docs := [] }).setMeters { s.meters with tamperEvents := s.meters.tamperEvents.add 1 }).setResetting
          (some { r with tamperEvents := r.tamperEvents + 1, tamperErased := r.tamperErased + s.store.docs.length })))) ∧
    (s.resetting.isSome = true →
      (∀ i, exec (.cartInserted i) s = .next (s.setSlot i { s.slot i with present := true }) ∧
        exec (.cartRemoved i) s = .next (s.setSlot i { s.slot i with present := false })) ∧
      (∀ c : Instr, (∀ x, c ≠ .supplyReset x) → c ≠ .resetEnd → c ≠ .tamperEvent → c ≠ .tamperRelease →
        (∀ i, c ≠ .cartInserted i) → (∀ i, c ≠ .cartRemoved i) → exec c s = .next s))

/-! ## Invariants -/

/-- The state after reset: no session, no job, no stream bound, no command waiting, every block under RESET with the full fill in
progress; and it satisfies every invariant stated below (R4, R13, R36, R73, R133, R150). The model's own choices: the moment and the
granted RESTART (log 2), the retained memory (log 3) and the pool with nothing listed (log 12). -/
def Obligations.ResetStateIsSound : Prop :=
  State.reset.session = none ∧ State.reset.jobs.jobs = [] ∧ (∀ i, State.reset.stream i = {}) ∧
  State.reset.queue.entries = [] ∧ State.reset.pool.underReset = true ∧ State.reset.pool.fill = some .full ∧
  State.reset.pending = [] ∧ State.reset.InRange ∧ State.reset.MoneySound ∧ State.reset.BindingsMatch ∧ State.reset.Settled

/-- Every step keeps queues, lists, settings and counts in their ranges and the pool's bytes in canonical form
(R41, R62, R65, R104, R106, R118, R126, R175, R176; the canonical form is the model's own). -/
def Obligations.StepsKeepRanges : Prop :=
  ∀ s t : State, s.InRange → step s = .next t → t.InRange

/-- Every step keeps accounts, jobs and holds sound: owners are present, and every balance covers the holds of its jobs
(R1, R2, R34, R35, R41). -/
def Obligations.StepsKeepMoneySound : Prop :=
  ∀ s t : State, s.MoneySound → step s = .next t → t.MoneySound

/-- Every step keeps jobs and streams matched to each other (R34, R149, R151, R155). -/
def Obligations.StepsKeepBindingsMatched : Prop :=
  ∀ s t : State, s.BindingsMatch → step s = .next t → t.BindingsMatch

/-- Every step ends settled: outside a supply reset no level or availability is stale or untold, and nothing waits that a free cipher unit,
fill engine, cartridge line, sheet queue or output line could take (R66, R90, R116, R118, R129, R162, R174; log 17). -/
def Obligations.StepsEndSettled : Prop :=
  ∀ s t : State, s.SettledOutsideReset → step s = .next t → t.SettledOutsideReset
end

