-- ==== Sys2Proof/Laws/State.lean ====
section
/-! SUPPORT. One lemma per field per update of State. -/

namespace Sys2Proof.Machine.State

variable (s : State)

/-! link -/
@[simp] theorem setLink_link (x) : (s.setLink x).link = x := rfl
@[simp] theorem setLink_accounts (x) : (s.setLink x).accounts = s.accounts := rfl
@[simp] theorem setLink_house (x) : (s.setLink x).house = s.house := rfl
@[simp] theorem setLink_session (x) : (s.setLink x).session = s.session := rfl
@[simp] theorem setLink_rates (x) : (s.setLink x).rates = s.rates := rfl
@[simp] theorem setLink_settings (x) : (s.setLink x).settings = s.settings := rfl
@[simp] theorem setLink_jobs (x) : (s.setLink x).jobs = s.jobs := rfl
@[simp] theorem setLink_queue (x) : (s.setLink x).queue = s.queue := rfl
@[simp] theorem setLink_meters (x) : (s.setLink x).meters = s.meters := rfl
@[simp] theorem setLink_cart (x) : (s.setLink x).cart = s.cart := rfl
@[simp] theorem setLink_pool (x) : (s.setLink x).pool = s.pool := rfl
@[simp] theorem setLink_streams (x) : (s.setLink x).streams = s.streams := rfl
@[simp] theorem setLink_ports (x) : (s.setLink x).ports = s.ports := rfl
@[simp] theorem setLink_cipher (x) : (s.setLink x).cipher = s.cipher := rfl
@[simp] theorem setLink_store (x) : (s.setLink x).store = s.store := rfl
@[simp] theorem setLink_tamper (x) : (s.setLink x).tamper = s.tamper := rfl
@[simp] theorem setLink_resetting (x) : (s.setLink x).resetting = s.resetting := rfl
@[simp] theorem setLink_draws (x) : (s.setLink x).draws = s.draws := rfl
@[simp] theorem setLink_pending (x) : (s.setLink x).pending = s.pending := rfl
/-! accounts -/
@[simp] theorem setAccounts_link (x) : (s.setAccounts x).link = s.link := rfl
@[simp] theorem setAccounts_accounts (x) : (s.setAccounts x).accounts = x := rfl
@[simp] theorem setAccounts_house (x) : (s.setAccounts x).house = s.house := rfl
@[simp] theorem setAccounts_session (x) : (s.setAccounts x).session = s.session := rfl
@[simp] theorem setAccounts_rates (x) : (s.setAccounts x).rates = s.rates := rfl
@[simp] theorem setAccounts_settings (x) : (s.setAccounts x).settings = s.settings := rfl
@[simp] theorem setAccounts_jobs (x) : (s.setAccounts x).jobs = s.jobs := rfl
@[simp] theorem setAccounts_queue (x) : (s.setAccounts x).queue = s.queue := rfl
@[simp] theorem setAccounts_meters (x) : (s.setAccounts x).meters = s.meters := rfl
@[simp] theorem setAccounts_cart (x) : (s.setAccounts x).cart = s.cart := rfl
@[simp] theorem setAccounts_pool (x) : (s.setAccounts x).pool = s.pool := rfl
@[simp] theorem setAccounts_streams (x) : (s.setAccounts x).streams = s.streams := rfl
@[simp] theorem setAccounts_ports (x) : (s.setAccounts x).ports = s.ports := rfl
@[simp] theorem setAccounts_cipher (x) : (s.setAccounts x).cipher = s.cipher := rfl
@[simp] theorem setAccounts_store (x) : (s.setAccounts x).store = s.store := rfl
@[simp] theorem setAccounts_tamper (x) : (s.setAccounts x).tamper = s.tamper := rfl
@[simp] theorem setAccounts_resetting (x) : (s.setAccounts x).resetting = s.resetting := rfl
@[simp] theorem setAccounts_draws (x) : (s.setAccounts x).draws = s.draws := rfl
@[simp] theorem setAccounts_pending (x) : (s.setAccounts x).pending = s.pending := rfl
/-! house -/
@[simp] theorem setHouse_link (x) : (s.setHouse x).link = s.link := rfl
@[simp] theorem setHouse_accounts (x) : (s.setHouse x).accounts = s.accounts := rfl
@[simp] theorem setHouse_house (x) : (s.setHouse x).house = x := rfl
@[simp] theorem setHouse_session (x) : (s.setHouse x).session = s.session := rfl
@[simp] theorem setHouse_rates (x) : (s.setHouse x).rates = s.rates := rfl
@[simp] theorem setHouse_settings (x) : (s.setHouse x).settings = s.settings := rfl
@[simp] theorem setHouse_jobs (x) : (s.setHouse x).jobs = s.jobs := rfl
@[simp] theorem setHouse_queue (x) : (s.setHouse x).queue = s.queue := rfl
@[simp] theorem setHouse_meters (x) : (s.setHouse x).meters = s.meters := rfl
@[simp] theorem setHouse_cart (x) : (s.setHouse x).cart = s.cart := rfl
@[simp] theorem setHouse_pool (x) : (s.setHouse x).pool = s.pool := rfl
@[simp] theorem setHouse_streams (x) : (s.setHouse x).streams = s.streams := rfl
@[simp] theorem setHouse_ports (x) : (s.setHouse x).ports = s.ports := rfl
@[simp] theorem setHouse_cipher (x) : (s.setHouse x).cipher = s.cipher := rfl
@[simp] theorem setHouse_store (x) : (s.setHouse x).store = s.store := rfl
@[simp] theorem setHouse_tamper (x) : (s.setHouse x).tamper = s.tamper := rfl
@[simp] theorem setHouse_resetting (x) : (s.setHouse x).resetting = s.resetting := rfl
@[simp] theorem setHouse_draws (x) : (s.setHouse x).draws = s.draws := rfl
@[simp] theorem setHouse_pending (x) : (s.setHouse x).pending = s.pending := rfl
/-! session -/
@[simp] theorem setSession_link (x) : (s.setSession x).link = s.link := rfl
@[simp] theorem setSession_accounts (x) : (s.setSession x).accounts = s.accounts := rfl
@[simp] theorem setSession_house (x) : (s.setSession x).house = s.house := rfl
@[simp] theorem setSession_session (x) : (s.setSession x).session = x := rfl
@[simp] theorem setSession_rates (x) : (s.setSession x).rates = s.rates := rfl
@[simp] theorem setSession_settings (x) : (s.setSession x).settings = s.settings := rfl
@[simp] theorem setSession_jobs (x) : (s.setSession x).jobs = s.jobs := rfl
@[simp] theorem setSession_queue (x) : (s.setSession x).queue = s.queue := rfl
@[simp] theorem setSession_meters (x) : (s.setSession x).meters = s.meters := rfl
@[simp] theorem setSession_cart (x) : (s.setSession x).cart = s.cart := rfl
@[simp] theorem setSession_pool (x) : (s.setSession x).pool = s.pool := rfl
@[simp] theorem setSession_streams (x) : (s.setSession x).streams = s.streams := rfl
@[simp] theorem setSession_ports (x) : (s.setSession x).ports = s.ports := rfl
@[simp] theorem setSession_cipher (x) : (s.setSession x).cipher = s.cipher := rfl
@[simp] theorem setSession_store (x) : (s.setSession x).store = s.store := rfl
@[simp] theorem setSession_tamper (x) : (s.setSession x).tamper = s.tamper := rfl
@[simp] theorem setSession_resetting (x) : (s.setSession x).resetting = s.resetting := rfl
@[simp] theorem setSession_draws (x) : (s.setSession x).draws = s.draws := rfl
@[simp] theorem setSession_pending (x) : (s.setSession x).pending = s.pending := rfl
/-! rates -/
@[simp] theorem setRates_link (x) : (s.setRates x).link = s.link := rfl
@[simp] theorem setRates_accounts (x) : (s.setRates x).accounts = s.accounts := rfl
@[simp] theorem setRates_house (x) : (s.setRates x).house = s.house := rfl
@[simp] theorem setRates_session (x) : (s.setRates x).session = s.session := rfl
@[simp] theorem setRates_rates (x) : (s.setRates x).rates = x := rfl
@[simp] theorem setRates_settings (x) : (s.setRates x).settings = s.settings := rfl
@[simp] theorem setRates_jobs (x) : (s.setRates x).jobs = s.jobs := rfl
@[simp] theorem setRates_queue (x) : (s.setRates x).queue = s.queue := rfl
@[simp] theorem setRates_meters (x) : (s.setRates x).meters = s.meters := rfl
@[simp] theorem setRates_cart (x) : (s.setRates x).cart = s.cart := rfl
@[simp] theorem setRates_pool (x) : (s.setRates x).pool = s.pool := rfl
@[simp] theorem setRates_streams (x) : (s.setRates x).streams = s.streams := rfl
@[simp] theorem setRates_ports (x) : (s.setRates x).ports = s.ports := rfl
@[simp] theorem setRates_cipher (x) : (s.setRates x).cipher = s.cipher := rfl
@[simp] theorem setRates_store (x) : (s.setRates x).store = s.store := rfl
@[simp] theorem setRates_tamper (x) : (s.setRates x).tamper = s.tamper := rfl
@[simp] theorem setRates_resetting (x) : (s.setRates x).resetting = s.resetting := rfl
@[simp] theorem setRates_draws (x) : (s.setRates x).draws = s.draws := rfl
@[simp] theorem setRates_pending (x) : (s.setRates x).pending = s.pending := rfl
/-! settings -/
@[simp] theorem setSettings_link (x) : (s.setSettings x).link = s.link := rfl
@[simp] theorem setSettings_accounts (x) : (s.setSettings x).accounts = s.accounts := rfl
@[simp] theorem setSettings_house (x) : (s.setSettings x).house = s.house := rfl
@[simp] theorem setSettings_session (x) : (s.setSettings x).session = s.session := rfl
@[simp] theorem setSettings_rates (x) : (s.setSettings x).rates = s.rates := rfl
@[simp] theorem setSettings_settings (x) : (s.setSettings x).settings = x := rfl
@[simp] theorem setSettings_jobs (x) : (s.setSettings x).jobs = s.jobs := rfl
@[simp] theorem setSettings_queue (x) : (s.setSettings x).queue = s.queue := rfl
@[simp] theorem setSettings_meters (x) : (s.setSettings x).meters = s.meters := rfl
@[simp] theorem setSettings_cart (x) : (s.setSettings x).cart = s.cart := rfl
@[simp] theorem setSettings_pool (x) : (s.setSettings x).pool = s.pool := rfl
@[simp] theorem setSettings_streams (x) : (s.setSettings x).streams = s.streams := rfl
@[simp] theorem setSettings_ports (x) : (s.setSettings x).ports = s.ports := rfl
@[simp] theorem setSettings_cipher (x) : (s.setSettings x).cipher = s.cipher := rfl
@[simp] theorem setSettings_store (x) : (s.setSettings x).store = s.store := rfl
@[simp] theorem setSettings_tamper (x) : (s.setSettings x).tamper = s.tamper := rfl
@[simp] theorem setSettings_resetting (x) : (s.setSettings x).resetting = s.resetting := rfl
@[simp] theorem setSettings_draws (x) : (s.setSettings x).draws = s.draws := rfl
@[simp] theorem setSettings_pending (x) : (s.setSettings x).pending = s.pending := rfl
/-! jobs -/
@[simp] theorem setJobs_link (x) : (s.setJobs x).link = s.link := rfl
@[simp] theorem setJobs_accounts (x) : (s.setJobs x).accounts = s.accounts := rfl
@[simp] theorem setJobs_house (x) : (s.setJobs x).house = s.house := rfl
@[simp] theorem setJobs_session (x) : (s.setJobs x).session = s.session := rfl
@[simp] theorem setJobs_rates (x) : (s.setJobs x).rates = s.rates := rfl
@[simp] theorem setJobs_settings (x) : (s.setJobs x).settings = s.settings := rfl
@[simp] theorem setJobs_jobs (x) : (s.setJobs x).jobs = x := rfl
@[simp] theorem setJobs_queue (x) : (s.setJobs x).queue = s.queue := rfl
@[simp] theorem setJobs_meters (x) : (s.setJobs x).meters = s.meters := rfl
@[simp] theorem setJobs_cart (x) : (s.setJobs x).cart = s.cart := rfl
@[simp] theorem setJobs_pool (x) : (s.setJobs x).pool = s.pool := rfl
@[simp] theorem setJobs_streams (x) : (s.setJobs x).streams = s.streams := rfl
@[simp] theorem setJobs_ports (x) : (s.setJobs x).ports = s.ports := rfl
@[simp] theorem setJobs_cipher (x) : (s.setJobs x).cipher = s.cipher := rfl
@[simp] theorem setJobs_store (x) : (s.setJobs x).store = s.store := rfl
@[simp] theorem setJobs_tamper (x) : (s.setJobs x).tamper = s.tamper := rfl
@[simp] theorem setJobs_resetting (x) : (s.setJobs x).resetting = s.resetting := rfl
@[simp] theorem setJobs_draws (x) : (s.setJobs x).draws = s.draws := rfl
@[simp] theorem setJobs_pending (x) : (s.setJobs x).pending = s.pending := rfl
/-! queue -/
@[simp] theorem setQueue_link (x) : (s.setQueue x).link = s.link := rfl
@[simp] theorem setQueue_accounts (x) : (s.setQueue x).accounts = s.accounts := rfl
@[simp] theorem setQueue_house (x) : (s.setQueue x).house = s.house := rfl
@[simp] theorem setQueue_session (x) : (s.setQueue x).session = s.session := rfl
@[simp] theorem setQueue_rates (x) : (s.setQueue x).rates = s.rates := rfl
@[simp] theorem setQueue_settings (x) : (s.setQueue x).settings = s.settings := rfl
@[simp] theorem setQueue_jobs (x) : (s.setQueue x).jobs = s.jobs := rfl
@[simp] theorem setQueue_queue (x) : (s.setQueue x).queue = x := rfl
@[simp] theorem setQueue_meters (x) : (s.setQueue x).meters = s.meters := rfl
@[simp] theorem setQueue_cart (x) : (s.setQueue x).cart = s.cart := rfl
@[simp] theorem setQueue_pool (x) : (s.setQueue x).pool = s.pool := rfl
@[simp] theorem setQueue_streams (x) : (s.setQueue x).streams = s.streams := rfl
@[simp] theorem setQueue_ports (x) : (s.setQueue x).ports = s.ports := rfl
@[simp] theorem setQueue_cipher (x) : (s.setQueue x).cipher = s.cipher := rfl
@[simp] theorem setQueue_store (x) : (s.setQueue x).store = s.store := rfl
@[simp] theorem setQueue_tamper (x) : (s.setQueue x).tamper = s.tamper := rfl
@[simp] theorem setQueue_resetting (x) : (s.setQueue x).resetting = s.resetting := rfl
@[simp] theorem setQueue_draws (x) : (s.setQueue x).draws = s.draws := rfl
@[simp] theorem setQueue_pending (x) : (s.setQueue x).pending = s.pending := rfl
/-! meters -/
@[simp] theorem setMeters_link (x) : (s.setMeters x).link = s.link := rfl
@[simp] theorem setMeters_accounts (x) : (s.setMeters x).accounts = s.accounts := rfl
@[simp] theorem setMeters_house (x) : (s.setMeters x).house = s.house := rfl
@[simp] theorem setMeters_session (x) : (s.setMeters x).session = s.session := rfl
@[simp] theorem setMeters_rates (x) : (s.setMeters x).rates = s.rates := rfl
@[simp] theorem setMeters_settings (x) : (s.setMeters x).settings = s.settings := rfl
@[simp] theorem setMeters_jobs (x) : (s.setMeters x).jobs = s.jobs := rfl
@[simp] theorem setMeters_queue (x) : (s.setMeters x).queue = s.queue := rfl
@[simp] theorem setMeters_meters (x) : (s.setMeters x).meters = x := rfl
@[simp] theorem setMeters_cart (x) : (s.setMeters x).cart = s.cart := rfl
@[simp] theorem setMeters_pool (x) : (s.setMeters x).pool = s.pool := rfl
@[simp] theorem setMeters_streams (x) : (s.setMeters x).streams = s.streams := rfl
@[simp] theorem setMeters_ports (x) : (s.setMeters x).ports = s.ports := rfl
@[simp] theorem setMeters_cipher (x) : (s.setMeters x).cipher = s.cipher := rfl
@[simp] theorem setMeters_store (x) : (s.setMeters x).store = s.store := rfl
@[simp] theorem setMeters_tamper (x) : (s.setMeters x).tamper = s.tamper := rfl
@[simp] theorem setMeters_resetting (x) : (s.setMeters x).resetting = s.resetting := rfl
@[simp] theorem setMeters_draws (x) : (s.setMeters x).draws = s.draws := rfl
@[simp] theorem setMeters_pending (x) : (s.setMeters x).pending = s.pending := rfl
/-! cart -/
@[simp] theorem setCart_link (x) : (s.setCart x).link = s.link := rfl
@[simp] theorem setCart_accounts (x) : (s.setCart x).accounts = s.accounts := rfl
@[simp] theorem setCart_house (x) : (s.setCart x).house = s.house := rfl
@[simp] theorem setCart_session (x) : (s.setCart x).session = s.session := rfl
@[simp] theorem setCart_rates (x) : (s.setCart x).rates = s.rates := rfl
@[simp] theorem setCart_settings (x) : (s.setCart x).settings = s.settings := rfl
@[simp] theorem setCart_jobs (x) : (s.setCart x).jobs = s.jobs := rfl
@[simp] theorem setCart_queue (x) : (s.setCart x).queue = s.queue := rfl
@[simp] theorem setCart_meters (x) : (s.setCart x).meters = s.meters := rfl
@[simp] theorem setCart_cart (x) : (s.setCart x).cart = x := rfl
@[simp] theorem setCart_pool (x) : (s.setCart x).pool = s.pool := rfl
@[simp] theorem setCart_streams (x) : (s.setCart x).streams = s.streams := rfl
@[simp] theorem setCart_ports (x) : (s.setCart x).ports = s.ports := rfl
@[simp] theorem setCart_cipher (x) : (s.setCart x).cipher = s.cipher := rfl
@[simp] theorem setCart_store (x) : (s.setCart x).store = s.store := rfl
@[simp] theorem setCart_tamper (x) : (s.setCart x).tamper = s.tamper := rfl
@[simp] theorem setCart_resetting (x) : (s.setCart x).resetting = s.resetting := rfl
@[simp] theorem setCart_draws (x) : (s.setCart x).draws = s.draws := rfl
@[simp] theorem setCart_pending (x) : (s.setCart x).pending = s.pending := rfl
/-! pool -/
@[simp] theorem setPool_link (x) : (s.setPool x).link = s.link := rfl
@[simp] theorem setPool_accounts (x) : (s.setPool x).accounts = s.accounts := rfl
@[simp] theorem setPool_house (x) : (s.setPool x).house = s.house := rfl
@[simp] theorem setPool_session (x) : (s.setPool x).session = s.session := rfl
@[simp] theorem setPool_rates (x) : (s.setPool x).rates = s.rates := rfl
@[simp] theorem setPool_settings (x) : (s.setPool x).settings = s.settings := rfl
@[simp] theorem setPool_jobs (x) : (s.setPool x).jobs = s.jobs := rfl
@[simp] theorem setPool_queue (x) : (s.setPool x).queue = s.queue := rfl
@[simp] theorem setPool_meters (x) : (s.setPool x).meters = s.meters := rfl
@[simp] theorem setPool_cart (x) : (s.setPool x).cart = s.cart := rfl
@[simp] theorem setPool_pool (x) : (s.setPool x).pool = x := rfl
@[simp] theorem setPool_streams (x) : (s.setPool x).streams = s.streams := rfl
@[simp] theorem setPool_ports (x) : (s.setPool x).ports = s.ports := rfl
@[simp] theorem setPool_cipher (x) : (s.setPool x).cipher = s.cipher := rfl
@[simp] theorem setPool_store (x) : (s.setPool x).store = s.store := rfl
@[simp] theorem setPool_tamper (x) : (s.setPool x).tamper = s.tamper := rfl
@[simp] theorem setPool_resetting (x) : (s.setPool x).resetting = s.resetting := rfl
@[simp] theorem setPool_draws (x) : (s.setPool x).draws = s.draws := rfl
@[simp] theorem setPool_pending (x) : (s.setPool x).pending = s.pending := rfl
/-! streams -/
@[simp] theorem setStreams_link (x) : (s.setStreams x).link = s.link := rfl
@[simp] theorem setStreams_accounts (x) : (s.setStreams x).accounts = s.accounts := rfl
@[simp] theorem setStreams_house (x) : (s.setStreams x).house = s.house := rfl
@[simp] theorem setStreams_session (x) : (s.setStreams x).session = s.session := rfl
@[simp] theorem setStreams_rates (x) : (s.setStreams x).rates = s.rates := rfl
@[simp] theorem setStreams_settings (x) : (s.setStreams x).settings = s.settings := rfl
@[simp] theorem setStreams_jobs (x) : (s.setStreams x).jobs = s.jobs := rfl
@[simp] theorem setStreams_queue (x) : (s.setStreams x).queue = s.queue := rfl
@[simp] theorem setStreams_meters (x) : (s.setStreams x).meters = s.meters := rfl
@[simp] theorem setStreams_cart (x) : (s.setStreams x).cart = s.cart := rfl
@[simp] theorem setStreams_pool (x) : (s.setStreams x).pool = s.pool := rfl
@[simp] theorem setStreams_streams (x) : (s.setStreams x).streams = x := rfl
@[simp] theorem setStreams_ports (x) : (s.setStreams x).ports = s.ports := rfl
@[simp] theorem setStreams_cipher (x) : (s.setStreams x).cipher = s.cipher := rfl
@[simp] theorem setStreams_store (x) : (s.setStreams x).store = s.store := rfl
@[simp] theorem setStreams_tamper (x) : (s.setStreams x).tamper = s.tamper := rfl
@[simp] theorem setStreams_resetting (x) : (s.setStreams x).resetting = s.resetting := rfl
@[simp] theorem setStreams_draws (x) : (s.setStreams x).draws = s.draws := rfl
@[simp] theorem setStreams_pending (x) : (s.setStreams x).pending = s.pending := rfl
/-! ports -/
@[simp] theorem setPorts_link (x) : (s.setPorts x).link = s.link := rfl
@[simp] theorem setPorts_accounts (x) : (s.setPorts x).accounts = s.accounts := rfl
@[simp] theorem setPorts_house (x) : (s.setPorts x).house = s.house := rfl
@[simp] theorem setPorts_session (x) : (s.setPorts x).session = s.session := rfl
@[simp] theorem setPorts_rates (x) : (s.setPorts x).rates = s.rates := rfl
@[simp] theorem setPorts_settings (x) : (s.setPorts x).settings = s.settings := rfl
@[simp] theorem setPorts_jobs (x) : (s.setPorts x).jobs = s.jobs := rfl
@[simp] theorem setPorts_queue (x) : (s.setPorts x).queue = s.queue := rfl
@[simp] theorem setPorts_meters (x) : (s.setPorts x).meters = s.meters := rfl
@[simp] theorem setPorts_cart (x) : (s.setPorts x).cart = s.cart := rfl
@[simp] theorem setPorts_pool (x) : (s.setPorts x).pool = s.pool := rfl
@[simp] theorem setPorts_streams (x) : (s.setPorts x).streams = s.streams := rfl
@[simp] theorem setPorts_ports (x) : (s.setPorts x).ports = x := rfl
@[simp] theorem setPorts_cipher (x) : (s.setPorts x).cipher = s.cipher := rfl
@[simp] theorem setPorts_store (x) : (s.setPorts x).store = s.store := rfl
@[simp] theorem setPorts_tamper (x) : (s.setPorts x).tamper = s.tamper := rfl
@[simp] theorem setPorts_resetting (x) : (s.setPorts x).resetting = s.resetting := rfl
@[simp] theorem setPorts_draws (x) : (s.setPorts x).draws = s.draws := rfl
@[simp] theorem setPorts_pending (x) : (s.setPorts x).pending = s.pending := rfl
/-! cipher -/
@[simp] theorem setCipher_link (x) : (s.setCipher x).link = s.link := rfl
@[simp] theorem setCipher_accounts (x) : (s.setCipher x).accounts = s.accounts := rfl
@[simp] theorem setCipher_house (x) : (s.setCipher x).house = s.house := rfl
@[simp] theorem setCipher_session (x) : (s.setCipher x).session = s.session := rfl
@[simp] theorem setCipher_rates (x) : (s.setCipher x).rates = s.rates := rfl
@[simp] theorem setCipher_settings (x) : (s.setCipher x).settings = s.settings := rfl
@[simp] theorem setCipher_jobs (x) : (s.setCipher x).jobs = s.jobs := rfl
@[simp] theorem setCipher_queue (x) : (s.setCipher x).queue = s.queue := rfl
@[simp] theorem setCipher_meters (x) : (s.setCipher x).meters = s.meters := rfl
@[simp] theorem setCipher_cart (x) : (s.setCipher x).cart = s.cart := rfl
@[simp] theorem setCipher_pool (x) : (s.setCipher x).pool = s.pool := rfl
@[simp] theorem setCipher_streams (x) : (s.setCipher x).streams = s.streams := rfl
@[simp] theorem setCipher_ports (x) : (s.setCipher x).ports = s.ports := rfl
@[simp] theorem setCipher_cipher (x) : (s.setCipher x).cipher = x := rfl
@[simp] theorem setCipher_store (x) : (s.setCipher x).store = s.store := rfl
@[simp] theorem setCipher_tamper (x) : (s.setCipher x).tamper = s.tamper := rfl
@[simp] theorem setCipher_resetting (x) : (s.setCipher x).resetting = s.resetting := rfl
@[simp] theorem setCipher_draws (x) : (s.setCipher x).draws = s.draws := rfl
@[simp] theorem setCipher_pending (x) : (s.setCipher x).pending = s.pending := rfl
/-! store -/
@[simp] theorem setStore_link (x) : (s.setStore x).link = s.link := rfl
@[simp] theorem setStore_accounts (x) : (s.setStore x).accounts = s.accounts := rfl
@[simp] theorem setStore_house (x) : (s.setStore x).house = s.house := rfl
@[simp] theorem setStore_session (x) : (s.setStore x).session = s.session := rfl
@[simp] theorem setStore_rates (x) : (s.setStore x).rates = s.rates := rfl
@[simp] theorem setStore_settings (x) : (s.setStore x).settings = s.settings := rfl
@[simp] theorem setStore_jobs (x) : (s.setStore x).jobs = s.jobs := rfl
@[simp] theorem setStore_queue (x) : (s.setStore x).queue = s.queue := rfl
@[simp] theorem setStore_meters (x) : (s.setStore x).meters = s.meters := rfl
@[simp] theorem setStore_cart (x) : (s.setStore x).cart = s.cart := rfl
@[simp] theorem setStore_pool (x) : (s.setStore x).pool = s.pool := rfl
@[simp] theorem setStore_streams (x) : (s.setStore x).streams = s.streams := rfl
@[simp] theorem setStore_ports (x) : (s.setStore x).ports = s.ports := rfl
@[simp] theorem setStore_cipher (x) : (s.setStore x).cipher = s.cipher := rfl
@[simp] theorem setStore_store (x) : (s.setStore x).store = x := rfl
@[simp] theorem setStore_tamper (x) : (s.setStore x).tamper = s.tamper := rfl
@[simp] theorem setStore_resetting (x) : (s.setStore x).resetting = s.resetting := rfl
@[simp] theorem setStore_draws (x) : (s.setStore x).draws = s.draws := rfl
@[simp] theorem setStore_pending (x) : (s.setStore x).pending = s.pending := rfl
/-! tamper -/
@[simp] theorem setTamper_link (x) : (s.setTamper x).link = s.link := rfl
@[simp] theorem setTamper_accounts (x) : (s.setTamper x).accounts = s.accounts := rfl
@[simp] theorem setTamper_house (x) : (s.setTamper x).house = s.house := rfl
@[simp] theorem setTamper_session (x) : (s.setTamper x).session = s.session := rfl
@[simp] theorem setTamper_rates (x) : (s.setTamper x).rates = s.rates := rfl
@[simp] theorem setTamper_settings (x) : (s.setTamper x).settings = s.settings := rfl
@[simp] theorem setTamper_jobs (x) : (s.setTamper x).jobs = s.jobs := rfl
@[simp] theorem setTamper_queue (x) : (s.setTamper x).queue = s.queue := rfl
@[simp] theorem setTamper_meters (x) : (s.setTamper x).meters = s.meters := rfl
@[simp] theorem setTamper_cart (x) : (s.setTamper x).cart = s.cart := rfl
@[simp] theorem setTamper_pool (x) : (s.setTamper x).pool = s.pool := rfl
@[simp] theorem setTamper_streams (x) : (s.setTamper x).streams = s.streams := rfl
@[simp] theorem setTamper_ports (x) : (s.setTamper x).ports = s.ports := rfl
@[simp] theorem setTamper_cipher (x) : (s.setTamper x).cipher = s.cipher := rfl
@[simp] theorem setTamper_store (x) : (s.setTamper x).store = s.store := rfl
@[simp] theorem setTamper_tamper (x) : (s.setTamper x).tamper = x := rfl
@[simp] theorem setTamper_resetting (x) : (s.setTamper x).resetting = s.resetting := rfl
@[simp] theorem setTamper_draws (x) : (s.setTamper x).draws = s.draws := rfl
@[simp] theorem setTamper_pending (x) : (s.setTamper x).pending = s.pending := rfl
/-! resetting -/
@[simp] theorem setResetting_link (x) : (s.setResetting x).link = s.link := rfl
@[simp] theorem setResetting_accounts (x) : (s.setResetting x).accounts = s.accounts := rfl
@[simp] theorem setResetting_house (x) : (s.setResetting x).house = s.house := rfl
@[simp] theorem setResetting_session (x) : (s.setResetting x).session = s.session := rfl
@[simp] theorem setResetting_rates (x) : (s.setResetting x).rates = s.rates := rfl
@[simp] theorem setResetting_settings (x) : (s.setResetting x).settings = s.settings := rfl
@[simp] theorem setResetting_jobs (x) : (s.setResetting x).jobs = s.jobs := rfl
@[simp] theorem setResetting_queue (x) : (s.setResetting x).queue = s.queue := rfl
@[simp] theorem setResetting_meters (x) : (s.setResetting x).meters = s.meters := rfl
@[simp] theorem setResetting_cart (x) : (s.setResetting x).cart = s.cart := rfl
@[simp] theorem setResetting_pool (x) : (s.setResetting x).pool = s.pool := rfl
@[simp] theorem setResetting_streams (x) : (s.setResetting x).streams = s.streams := rfl
@[simp] theorem setResetting_ports (x) : (s.setResetting x).ports = s.ports := rfl
@[simp] theorem setResetting_cipher (x) : (s.setResetting x).cipher = s.cipher := rfl
@[simp] theorem setResetting_store (x) : (s.setResetting x).store = s.store := rfl
@[simp] theorem setResetting_tamper (x) : (s.setResetting x).tamper = s.tamper := rfl
@[simp] theorem setResetting_resetting (x) : (s.setResetting x).resetting = x := rfl
@[simp] theorem setResetting_draws (x) : (s.setResetting x).draws = s.draws := rfl
@[simp] theorem setResetting_pending (x) : (s.setResetting x).pending = s.pending := rfl
/-! draws -/
@[simp] theorem setDraws_link (x) : (s.setDraws x).link = s.link := rfl
@[simp] theorem setDraws_accounts (x) : (s.setDraws x).accounts = s.accounts := rfl
@[simp] theorem setDraws_house (x) : (s.setDraws x).house = s.house := rfl
@[simp] theorem setDraws_session (x) : (s.setDraws x).session = s.session := rfl
@[simp] theorem setDraws_rates (x) : (s.setDraws x).rates = s.rates := rfl
@[simp] theorem setDraws_settings (x) : (s.setDraws x).settings = s.settings := rfl
@[simp] theorem setDraws_jobs (x) : (s.setDraws x).jobs = s.jobs := rfl
@[simp] theorem setDraws_queue (x) : (s.setDraws x).queue = s.queue := rfl
@[simp] theorem setDraws_meters (x) : (s.setDraws x).meters = s.meters := rfl
@[simp] theorem setDraws_cart (x) : (s.setDraws x).cart = s.cart := rfl
@[simp] theorem setDraws_pool (x) : (s.setDraws x).pool = s.pool := rfl
@[simp] theorem setDraws_streams (x) : (s.setDraws x).streams = s.streams := rfl
@[simp] theorem setDraws_ports (x) : (s.setDraws x).ports = s.ports := rfl
@[simp] theorem setDraws_cipher (x) : (s.setDraws x).cipher = s.cipher := rfl
@[simp] theorem setDraws_store (x) : (s.setDraws x).store = s.store := rfl
@[simp] theorem setDraws_tamper (x) : (s.setDraws x).tamper = s.tamper := rfl
@[simp] theorem setDraws_resetting (x) : (s.setDraws x).resetting = s.resetting := rfl
@[simp] theorem setDraws_draws (x) : (s.setDraws x).draws = x := rfl
@[simp] theorem setDraws_pending (x) : (s.setDraws x).pending = s.pending := rfl
/-! pending -/
@[simp] theorem setPending_link (x) : (s.setPending x).link = s.link := rfl
@[simp] theorem setPending_accounts (x) : (s.setPending x).accounts = s.accounts := rfl
@[simp] theorem setPending_house (x) : (s.setPending x).house = s.house := rfl
@[simp] theorem setPending_session (x) : (s.setPending x).session = s.session := rfl
@[simp] theorem setPending_rates (x) : (s.setPending x).rates = s.rates := rfl
@[simp] theorem setPending_settings (x) : (s.setPending x).settings = s.settings := rfl
@[simp] theorem setPending_jobs (x) : (s.setPending x).jobs = s.jobs := rfl
@[simp] theorem setPending_queue (x) : (s.setPending x).queue = s.queue := rfl
@[simp] theorem setPending_meters (x) : (s.setPending x).meters = s.meters := rfl
@[simp] theorem setPending_cart (x) : (s.setPending x).cart = s.cart := rfl
@[simp] theorem setPending_pool (x) : (s.setPending x).pool = s.pool := rfl
@[simp] theorem setPending_streams (x) : (s.setPending x).streams = s.streams := rfl
@[simp] theorem setPending_ports (x) : (s.setPending x).ports = s.ports := rfl
@[simp] theorem setPending_cipher (x) : (s.setPending x).cipher = s.cipher := rfl
@[simp] theorem setPending_store (x) : (s.setPending x).store = s.store := rfl
@[simp] theorem setPending_tamper (x) : (s.setPending x).tamper = s.tamper := rfl
@[simp] theorem setPending_resetting (x) : (s.setPending x).resetting = s.resetting := rfl
@[simp] theorem setPending_draws (x) : (s.setPending x).draws = s.draws := rfl
@[simp] theorem setPending_pending (x) : (s.setPending x).pending = x := rfl

end Sys2Proof.Machine.State
end

