-- ==== Sys2Proof/Laws/Data.lean ====
section
/-! SUPPORT. What the operations over tables, fours, meters and the notice set do, said once. -/

namespace Sys2Proof.Machine

/-! ## Four -/

namespace Four

variable {α : Type}

@[simp] theorem get_set_same (q : Four α) (i : Fin 4) (x : α) : (q.set i x).get i = x := by
  rcases i with ⟨_ | _ | _ | _ | n, h⟩ <;> first | rfl | omega

theorem get_set_other (q : Four α) {i k : Fin 4} (x : α) (h : k ≠ i) : (q.set i x).get k = q.get k := by
  rcases i with ⟨_ | _ | _ | _ | n, hi⟩ <;> rcases k with ⟨_ | _ | _ | _ | m, hk⟩ <;> first | rfl | omega

theorem get_set (q : Four α) (i k : Fin 4) (x : α) : (q.set i x).get k = if k = i then x else q.get k := by
  split
  · next h => rw [h, get_set_same]
  · next h => exact get_set_other q x h

@[simp] theorem set_set (q : Four α) (i : Fin 4) (x y : α) : (q.set i x).set i y = q.set i y := by
  rcases i with ⟨_ | _ | _ | _ | n, h⟩ <;> first | rfl | omega

end Four

/-! ## Tables -/

namespace Table

variable {α : Type}

@[simp] theorem find_nil (n : Nat) : find ([] : Table α) n = none := rfl

theorem find_cons (k : Nat) (v : α) (rest : Table α) (n : Nat) :
    find ((k, v) :: rest) n = if n = k then some v else find rest n := rfl

theorem find_put (t : Table α) (n : Nat) (x : α) (m : Nat) : find (put t n x) m = if m = n then some x else find t m := by
  induction t with
  | nil => rfl
  | cons c rest ih =>
    obtain ⟨k, v⟩ := c
    unfold put
    split
    · rw [find_cons]
    · split
      · next h =>
        subst h; simp only [find_cons]; split <;> rfl
      · next h h' =>
        simp only [find_cons, ih]
        split
        · next e => subst e; rw [if_neg (fun e => h' e.symm)]
        · rfl

theorem find_change (t : Table α) (n : Nat) (f : α → α) (m : Nat) :
    find (change t n f) m = if m = n then (find t m).map f else find t m := by
  induction t with
  | nil => simp [change]
  | cons c rest ih =>
    obtain ⟨k, v⟩ := c
    simp only [change, List.map_cons] at ih ⊢
    by_cases hk : k = n
    · subst hk
      simp only [if_true, find_cons, ih]
      split <;> simp_all
    · simp only [if_neg hk, find_cons, ih]
      by_cases hm : m = k
      · subst hm; simp [hk]
      · simp [hm]

theorem find_drop (t : Table α) (n m : Nat) : find (drop t n) m = if m = n then none else find t m := by
  induction t with
  | nil => simp [drop]
  | cons c rest ih =>
    obtain ⟨k, v⟩ := c
    simp only [drop] at ih ⊢
    by_cases hk : k = n
    · subst hk
      simp only [List.filter_cons, bne_self_eq_false, Bool.false_eq_true, if_false, ih, find_cons]
      split <;> rfl
    · have : (k != n) = true := by simpa using hk
      simp only [List.filter_cons, this, if_true, find_cons, ih]
      by_cases hm : m = k
      · subst hm; simp [hk]
      · simp [hm]

theorem find_mem {t : Table α} {n : Nat} {x : α} (h : find t n = some x) : (n, x) ∈ t := by
  induction t with
  | nil => cases h
  | cons c rest ih =>
    obtain ⟨k, v⟩ := c
    rw [find_cons] at h
    split at h
    · next e => cases h; subst e; exact List.mem_cons_self
    · exact List.mem_cons_of_mem _ (ih h)

end Table

/-! ## The state through its tables -/

namespace State

variable (s : State)

theorem account_changeAccount (p : Nat) (f : Account → Account) (q : Nat) :
    (s.changeAccount p f).account q = if q = p then (s.account q).map f else s.account q :=
  Table.find_change s.accounts p f q

theorem job_changeJob (n : Nat) (f : Job → Job) (m : Nat) :
    (s.changeJob n f).job m = if m = n then (s.job m).map f else s.job m :=
  Table.find_change s.jobs.jobs n f m

@[simp] theorem stream_setStream_same (i : Fin 4) (st : Stream) : (s.setStream i st).stream i = st :=
  Four.get_set_same _ _ _

theorem stream_setStream_other {i k : Fin 4} (st : Stream) (h : k ≠ i) : (s.setStream i st).stream k = s.stream k :=
  Four.get_set_other _ _ h

@[simp] theorem slot_setSlot_same (i : Fin 4) (sl : Slot) : (s.setSlot i sl).slot i = sl := Four.get_set_same _ _ _

theorem slot_setSlot_other {i k : Fin 4} (sl : Slot) (h : k ≠ i) : (s.setSlot i sl).slot k = s.slot k :=
  Four.get_set_other _ _ h

theorem setStream_setStream (i : Fin 4) (a b : Stream) : (s.setStream i a).setStream i b = s.setStream i b := by
  simp only [setStream, setStreams, Four.set_set]

theorem setSlot_setSlot (i : Fin 4) (a b : Slot) : (s.setSlot i a).setSlot i b = s.setSlot i b := by
  simp only [setSlot, setCart, Four.set_set]

theorem document_eraseDocument (n : Nat) : (s.eraseDocument n).document n = none := by
  simp [eraseDocument, document, setStore, List.find?_filter]

theorem touchSession_some {se : Session} (h : s.session = some se) :
    s.touchSession = s.setSession (some { se with idle := 0 }) := by
  simp only [touchSession, h, Option.map]

theorem isAdmin_touchSession : s.touchSession.isAdmin = s.isAdmin := by
  unfold isAdmin touchSession
  cases h : s.session <;> simp [setSession, account]

end State

/-! ## Meters -/

namespace Meter

@[simp] theorem add_zero (m : Meter) : m.add 0 = m := rfl

theorem add_value_le (m : Meter) (n : Nat) (h : m.value ≤ Config.meterTop) : (m.add n).value ≤ Config.meterTop := by
  unfold add
  split
  · exact h
  · split
    · next h => exact h
    · exact Nat.le_refl _

end Meter

/-! ## The notice set -/

theorem Notice.merge_key {h n : Notice} (e : h.key = n.key) : (h.merge n).key = h.key := by
  cases h <;> cases n <;> first | rfl | (simp only [Notice.merge]; exact e.symm)

theorem Link.post_keys (l : Link) (n : Notice) :
    (l.post n).notices.map Notice.key = l.notices.map Notice.key ∨
      ((∀ h ∈ l.notices, h.key ≠ n.key) ∧ l.notices.length < Config.noticeSize ∧ (l.post n).notices = l.notices ++ [n]) := by
  unfold Link.post
  split
  · left
    simp only [List.map_map]
    apply List.map_congr_left
    intro h _
    simp only [Function.comp]
    split
    · next e => exact Notice.merge_key e
    · rfl
  · next no =>
    split
    · next len =>
      right
      refine ⟨fun h hm e => no ?_, len, rfl⟩
      simpa using ⟨h, hm, e⟩
    · left; rfl

@[simp] theorem Link.post_tx (l : Link) (n : Notice) : (l.post n).tx = l.tx := by unfold Link.post; split <;> [rfl; (split <;> rfl)]
@[simp] theorem Link.post_requestSlot (l : Link) (n : Notice) : (l.post n).requestSlot = l.requestSlot := by
  unfold Link.post; split <;> [rfl; (split <;> rfl)]
@[simp] theorem Link.post_refusalSlot (l : Link) (n : Notice) : (l.post n).refusalSlot = l.refusalSlot := by
  unfold Link.post; split <;> [rfl; (split <;> rfl)]
@[simp] theorem Link.post_ready (l : Link) (n : Notice) : (l.post n).ready = l.ready := by
  unfold Link.post; split <;> [rfl; (split <;> rfl)]

/-- The arbiter takes notices from the front of the set and changes no slot. -/
theorem Link.arbitrate_notices (l : Link) : l.arbitrate.notices = l.notices ∨ l.arbitrate.notices = l.notices.tail := by
  rcases l with ⟨a, b, ready, tx, notices, c, d⟩
  cases tx <;> cases ready <;> cases notices <;> simp [Link.arbitrate]

@[simp] theorem Link.arbitrate_requestSlot (l : Link) : l.arbitrate.requestSlot = l.requestSlot := by
  rcases l with ⟨a, b, ready, tx, notices, c, d⟩
  cases tx <;> cases ready <;> cases notices <;> rfl

end Sys2Proof.Machine
end

