-- ==== Sys2Proof/Laws/Grants.lean ====
section
/-! SUPPORT. What the end of an event can do (finish), and what a posting and a halt leave as it was. -/

namespace Sys2Proof.Machine.State

variable {s t u : State}

/-! ## The ledger -/

theorem SameLedger.refl (s : State) : s.SameLedger s := by constructor <;> rfl

theorem SameLedger.trans (h : s.SameLedger t) (k : t.SameLedger u) : s.SameLedger u := by
  constructor
  · exact k.accounts.trans h.accounts
  · exact k.house.trans h.house
  · exact k.session.trans h.session
  · exact k.rates.trans h.rates
  · exact k.settings.trans h.settings
  · exact k.jobs.trans h.jobs
  · exact k.meters.trans h.meters
  · exact k.store.trans h.store
  · exact k.tamper.trans h.tamper
  · exact k.resetting.trans h.resetting
  · exact k.pending.trans h.pending
  · exact k.entries.trans h.entries
  · exact k.hold.trans h.hold
  · exact k.mem.trans h.mem
  · exact k.wipe.trans h.wipe
  · exact k.underReset.trans h.underReset
  · exact k.rejectList.trans h.rejectList
  · exact k.snapshots.trans h.snapshots

theorem setLink_same (x) : s.SameLedger (s.setLink x) := by constructor <;> rfl
theorem setStreams_same (x) : s.SameLedger (s.setStreams x) := by constructor <;> rfl
theorem setPorts_same (x) : s.SameLedger (s.setPorts x) := by constructor <;> rfl
theorem setCipher_same (x) : s.SameLedger (s.setCipher x) := by constructor <;> rfl
theorem setDraws_same (x) : s.SameLedger (s.setDraws x) := by constructor <;> rfl
theorem post_same (n : Notice) : s.SameLedger (s.post n) := setLink_same _
theorem drawn_same : s.SameLedger s.drawn := setDraws_same _
theorem setStream_same (i st) : s.SameLedger (s.setStream i st) := setStreams_same _
theorem changeStream_same (i f) : s.SameLedger (s.changeStream i f) := setStreams_same _
theorem setSlot_same (i sl) : s.SameLedger (s.setSlot i sl) := by constructor <;> rfl
theorem changeSlot_same (i f) : s.SameLedger (s.changeSlot i f) := setSlot_same _ _
theorem setLevelMoved_same (i b) : s.SameLedger (s.setLevelMoved i b) := by constructor <;> rfl
theorem joinFill_same (i hs) : s.SameLedger (s.joinFill i hs) := by constructor <;> rfl

theorem foldl_same {α : Type} {f : State → α → State} (h : ∀ (s : State) (a : α), s.SameLedger (f s a)) (l : List α) (s : State) :
    s.SameLedger (l.foldl f s) := by
  induction l generalizing s with
  | nil => exact SameLedger.refl s
  | cons a l ih => exact (h s a).trans (ih _)

theorem haltStream_same (i c) : s.SameLedger (s.haltStream i c) := by
  unfold haltStream
  split
  · exact ((setStream_same _ _).trans (setPorts_same _)).trans (joinFill_same _ _)
  · exact SameLedger.refl s

theorem halt_same (i c) : s.SameLedger (s.halt i c) := by
  unfold halt
  split
  · exact (haltStream_same i c).trans (post_same _)
  · exact SameLedger.refl s

theorem haltAll_same (c l) : s.SameLedger (s.haltAll c l) := foldl_same (fun s i => halt_same (s := s) i c) l s

/-! ## The notices of the cartridge unit and the marks of moved levels -/

@[simp] theorem slot_setLevelMoved (i k b) : (s.setLevelMoved i b).slot k = s.slot k := rfl

theorem noteLevel_same (i) : s.SameLedger (s.noteLevel i) := by
  unfold noteLevel
  split
  · exact SameLedger.refl s
  · exact setLevelMoved_same _ _

/-- A noted level changes no slot record. -/
@[simp] theorem slot_noteLevel (i k) : (s.noteLevel i).slot k = s.slot k := by
  unfold noteLevel
  split <;> rfl

theorem tellCart_same (i n) : s.SameLedger (s.tellCart i n) := by
  unfold tellCart
  split
  · exact SameLedger.refl s
  · exact post_same _

/-- A notice changes nothing of the cartridge unit. -/
@[simp] theorem cart_tellCart (i n) : (s.tellCart i n).cart = s.cart := by
  unfold tellCart
  split <;> rfl

theorem tellCarts_same (l : List (Fin 4 × CartNews)) : s.SameLedger (s.tellCarts l) := by
  unfold tellCarts
  exact foldl_same (fun _ x => tellCart_same x.1 x.2) l s

@[simp] theorem cart_tellCarts (l : List (Fin 4 × CartNews)) (s : State) : (s.tellCarts l).cart = s.cart := by
  unfold tellCarts
  induction l generalizing s with
  | nil => rfl
  | cons x l ih => exact (ih _).trans (cart_tellCart _ _)

/-! ## The parts of finish -/

theorem updateLevel_same (i) : s.SameLedger (s.updateLevel i) := by
  unfold updateLevel
  dsimp only
  split
  · exact SameLedger.refl s
  · exact ((setSlot_same _ _).trans (setLevelMoved_same _ _)).trans (post_same _)

theorem updateLevels_same : s.SameLedger s.updateLevels := foldl_same (fun s i => updateLevel_same (s := s) i) _ s

theorem updateAvailability_same : s.SameLedger s.updateAvailability := by
  unfold updateAvailability
  dsimp only
  split
  · exact SameLedger.refl s
  · refine SameLedger.trans ?_ (haltAll_same _ _)
    refine SameLedger.trans ?_ (post_same _)
    constructor <;> rfl

theorem cipherGrant_same : s.SameLedger s.cipherGrant := by
  unfold cipherGrant
  split
  · exact (changeStream_same _ _).trans (setCipher_same _)
  · exact SameLedger.refl s

theorem fillTake_same : s.SameLedger s.fillTake := by
  unfold fillTake
  split <;> first | exact SameLedger.refl s | (constructor <;> rfl)

theorem beginTransaction_same (i k w) : s.SameLedger (s.beginTransaction i k w) := by
  unfold beginTransaction
  constructor <;> rfl

theorem lineGrantFrom_same (l : List (Fin 4)) (s : State) : s.SameLedger (s.lineGrantFrom l) := by
  induction l generalizing s with
  | nil => exact SameLedger.refl s
  | cons i l ih =>
    unfold lineGrantFrom
    split
    · exact ih s
    · exact beginTransaction_same _ _ _
    · exact drawn_same.trans (beginTransaction_same _ _ _)
    · split
      · exact (changeSlot_same _ _).trans (ih _)
      · exact beginTransaction_same _ _ _

theorem lineGrant_same : s.SameLedger s.lineGrant := by
  unfold lineGrant
  split
  · exact SameLedger.refl s
  · exact lineGrantFrom_same _ s

theorem beginTake_same : s.SameLedger s.beginTake := by
  unfold beginTake
  split
  · exact SameLedger.refl s
  · constructor <;> rfl

theorem arbitrate_same : s.SameLedger s.arbitrate := setLink_same _

/-- The end of an event leaves the ledger as it was. -/
theorem finish_same (s : State) : s.SameLedger s.finish := by
  unfold finish
  exact (((((updateLevels_same.trans updateAvailability_same).trans cipherGrant_same).trans fillTake_same).trans
    lineGrant_same).trans beginTake_same).trans arbitrate_same

@[simp] theorem finish_accounts : s.finish.accounts = s.accounts := (finish_same s).accounts
@[simp] theorem finish_house : s.finish.house = s.house := (finish_same s).house
@[simp] theorem finish_session : s.finish.session = s.session := (finish_same s).session
@[simp] theorem finish_rates : s.finish.rates = s.rates := (finish_same s).rates
@[simp] theorem finish_settings : s.finish.settings = s.settings := (finish_same s).settings
@[simp] theorem finish_jobs : s.finish.jobs = s.jobs := (finish_same s).jobs
@[simp] theorem finish_meters : s.finish.meters = s.meters := (finish_same s).meters
@[simp] theorem finish_store : s.finish.store = s.store := (finish_same s).store
@[simp] theorem finish_tamper : s.finish.tamper = s.tamper := (finish_same s).tamper
@[simp] theorem finish_resetting : s.finish.resetting = s.resetting := (finish_same s).resetting
@[simp] theorem finish_pending : s.finish.pending = s.pending := (finish_same s).pending
@[simp] theorem finish_entries : s.finish.queue.entries = s.queue.entries := (finish_same s).entries
@[simp] theorem finish_hold : s.finish.queue.hold = s.queue.hold := (finish_same s).hold
@[simp] theorem finish_mem : s.finish.pool.mem = s.pool.mem := (finish_same s).mem
@[simp] theorem finish_wipe : s.finish.pool.wipe = s.pool.wipe := (finish_same s).wipe
@[simp] theorem finish_underReset : s.finish.pool.underReset = s.pool.underReset := (finish_same s).underReset
@[simp] theorem finish_rejectList : s.finish.cart.rejectList = s.cart.rejectList := (finish_same s).rejectList
@[simp] theorem finish_snapshots : s.finish.cart.snapshots = s.cart.snapshots := (finish_same s).snapshots

/-! ## finish on a quiet state -/

theorem lineGrantFrom_none (l : List (Fin 4)) (h : ∀ i, (s.slot i).grantable = none) : s.lineGrantFrom l = s := by
  induction l with
  | nil => rfl
  | cons i l ih => unfold lineGrantFrom; simp only [h i]; exact ih

theorem beginTake_taking (h : s.queue.entries = [] ∨ s.queue.taking = true) : s.beginTake = s := by
  unfold beginTake
  split
  · rfl
  · next he =>
    rcases h with h | h
    · simp [h] at he
    · unfold setQueue
      rw [← h]

/-- On a quiet state the end of an event is the grant of the output line alone. -/
theorem Quiet.finish_eq (q : s.Quiet) : s.finish = s.setLink s.link.arbitrate := by
  have h1 : s.updateLevels = s := by
    simp [updateLevels, fourIndices, updateLevel, q.levels, q.moved]
  have h2 : s.updateAvailability = s := by
    simp [updateAvailability, q.mono, q.colour]
  have h3 : s.cipherGrant = s := by
    unfold cipherGrant
    rcases q.cipher with h | h
    · obtain ⟨w, hw⟩ := Option.isSome_iff_exists.mp h
      rw [hw]
    · split
      · next i _ hf => exact absurd (List.find?_some hf) (by simp [h])
      · rfl
  have h4 : s.fillTake = s := by
    unfold fillTake
    rcases q.fill with h | ⟨hw, hp⟩
    · obtain ⟨x, hx⟩ := Option.isSome_iff_exists.mp h
      rw [hx]
    · rw [hw, hp]
      split <;> simp_all
  have h5 : s.lineGrant = s := by
    unfold lineGrant
    rcases q.line with h | h
    · simp [h]
    · split
      · rfl
      · exact lineGrantFrom_none _ h
  have h6 : s.beginTake = s := beginTake_taking q.take
  unfold finish
  rw [h1, h2, h3, h4, h5, h6]
  rfl

/-- Whether a state is quiet does not depend on the link. -/
theorem Quiet.setLink (q : s.Quiet) (x : Link) : (s.setLink x).Quiet :=
  ⟨q.levels, q.moved, q.mono, q.colour, q.cipher, q.fill, q.line, q.take⟩

theorem Quiet.setAccounts (q : s.Quiet) (x) : (s.setAccounts x).Quiet :=
  ⟨q.levels, q.moved, q.mono, q.colour, q.cipher, q.fill, q.line, q.take⟩

theorem Quiet.setSession (q : s.Quiet) (x) : (s.setSession x).Quiet :=
  ⟨q.levels, q.moved, q.mono, q.colour, q.cipher, q.fill, q.line, q.take⟩

theorem Quiet.setRates (q : s.Quiet) (x) : (s.setRates x).Quiet :=
  ⟨q.levels, q.moved, q.mono, q.colour, q.cipher, q.fill, q.line, q.take⟩

theorem Quiet.setStore (q : s.Quiet) (x) : (s.setStore x).Quiet :=
  ⟨q.levels, q.moved, q.mono, q.colour, q.cipher, q.fill, q.line, q.take⟩

theorem Quiet.setJobs (q : s.Quiet) (x) : (s.setJobs x).Quiet :=
  ⟨q.levels, q.moved, q.mono, q.colour, q.cipher, q.fill, q.line, q.take⟩

theorem Quiet.setMeters (q : s.Quiet) (x) : (s.setMeters x).Quiet :=
  ⟨q.levels, q.moved, q.mono, q.colour, q.cipher, q.fill, q.line, q.take⟩

theorem Quiet.setTamper (q : s.Quiet) (x) : (s.setTamper x).Quiet :=
  ⟨q.levels, q.moved, q.mono, q.colour, q.cipher, q.fill, q.line, q.take⟩

end Sys2Proof.Machine.State
end

