-- ==== Sys2Proof/Laws/Images.lean ====
section
/-! SUPPORT. What halts, unbindings, job stops and writes to the pool leave alone, and what a halt does to its stream. -/

namespace Sys2Proof.Machine

variable {s t u : State}

theorem State.SameBesidesImages.refl (s : State) : s.SameBesidesImages s := by constructor <;> rfl

theorem State.SameBesidesImages.trans (h : s.SameBesidesImages t) (k : t.SameBesidesImages u) : s.SameBesidesImages u where
  accounts := k.accounts.trans h.accounts
  house := k.house.trans h.house
  session := k.session.trans h.session
  rates := k.rates.trans h.rates
  settings := k.settings.trans h.settings
  queue := k.queue.trans h.queue
  meters := k.meters.trans h.meters
  cart := k.cart.trans h.cart
  tamper := k.tamper.trans h.tamper
  resetting := k.resetting.trans h.resetting
  pending := k.pending.trans h.pending

theorem setLink_images (x) : s.SameBesidesImages (s.setLink x) := by constructor <;> rfl
theorem setJobs_images (x) : s.SameBesidesImages (s.setJobs x) := by constructor <;> rfl
theorem setPool_images (x) : s.SameBesidesImages (s.setPool x) := by constructor <;> rfl
theorem setStreams_images (x) : s.SameBesidesImages (s.setStreams x) := by constructor <;> rfl
theorem setPorts_images (x) : s.SameBesidesImages (s.setPorts x) := by constructor <;> rfl
theorem setCipher_images (x) : s.SameBesidesImages (s.setCipher x) := by constructor <;> rfl
theorem setStore_images (x) : s.SameBesidesImages (s.setStore x) := by constructor <;> rfl
theorem setDraws_images (x) : s.SameBesidesImages (s.setDraws x) := by constructor <;> rfl
theorem post_images (n : Notice) : s.SameBesidesImages (s.post n) := setLink_images _
theorem changeJob_images (n f) : s.SameBesidesImages (s.changeJob n f) := setJobs_images _
theorem setStream_images (i st) : s.SameBesidesImages (s.setStream i st) := setStreams_images _
theorem changeStream_images (i f) : s.SameBesidesImages (s.changeStream i f) := setStreams_images _
theorem changeDocument_images (n f) : s.SameBesidesImages (s.changeDocument n f) := setStore_images _
theorem writeHalf_images (st b bs) : s.SameBesidesImages (s.writeHalf st b bs) := setPool_images _
theorem joinFill_images (i hs) : s.SameBesidesImages (s.joinFill i hs) := setPool_images _

theorem zeroHalf_images (st b) : s.SameBesidesImages (s.zeroHalf st b) := by
  unfold State.zeroHalf
  split
  · exact State.SameBesidesImages.refl s
  · exact setPool_images _

theorem haltStream_images (i c) : s.SameBesidesImages (s.haltStream i c) := by
  unfold State.haltStream
  split
  · exact ((setStream_images i _).trans (setPorts_images _)).trans (joinFill_images i _)
  · exact State.SameBesidesImages.refl s

theorem halt_images (i c) : s.SameBesidesImages (s.halt i c) := by
  unfold State.halt
  split
  · exact (haltStream_images i c).trans (post_images _)
  · exact State.SameBesidesImages.refl s

theorem unbind_images (i) : s.SameBesidesImages (s.unbind i) := by
  unfold State.unbind
  simp only
  split
  · exact ((setPool_images _).trans (setPorts_images _)).trans (setStream_images i _)
  · exact (((setPool_images _).trans (setPorts_images _)).trans (setStream_images i _)).trans (changeJob_images _ _)

theorem stopJob_images (n c) : s.SameBesidesImages (s.stopJob n c) := by
  unfold State.stopJob
  split
  · exact State.SameBesidesImages.refl s
  · next j _ =>
    split
    · have base := (changeJob_images (s := s) n fun j => j.stopped c).trans
        (post_images (.jobStop n (s.userNumber j.owner) c))
      simp only
      split
      · split
        · exact base.trans (halt_images _ _)
        · exact base
      · exact base
    · exact State.SameBesidesImages.refl s

/-! ## The stream that halts, and the others -/

theorem halt_eq_self {i : Fin 4} {c : HaltCause} (h : (s.stream i).mayHalt c = false) : s.halt i c = s := by
  simp [State.halt, h]

theorem halt_stream_same {i : Fin 4} {c : HaltCause} (h : (s.stream i).mayHalt c = true) :
    (s.halt i c).stream i = (s.stream i).enterHalt c (s.ports.writingInto i) := by
  simp only [State.halt, State.haltStream, h, if_true]
  exact Four.get_set_same _ _ _

theorem halt_stream_other {i k : Fin 4} (c : HaltCause) (h : k ≠ i) : (s.halt i c).stream k = s.stream k := by
  unfold State.halt State.haltStream
  split
  · exact Four.get_set_other _ _ h
  · rfl

theorem enterHalt_state (st : Stream) (c : HaltCause) (w : Option BandHeader) :
    (st.enterHalt c w).state = .halt ∧ (st.enterHalt c w).haltCause = some c ∧ (st.enterHalt c w).idle = none := by
  unfold Stream.enterHalt Stream.resumePoint
  cases w <;> simp only <;> split <;> exact ⟨rfl, rfl, rfl⟩

/-- A halt changes no job and no document. -/
theorem halt_jobs_store (i : Fin 4) (c : HaltCause) :
    (s.halt i c).jobs = s.jobs ∧ (s.halt i c).store = s.store ∧ (s.halt i c).pool.mem = s.pool.mem ∧
      (s.halt i c).pool.wipe = s.pool.wipe ∧ (s.halt i c).cipher = s.cipher := by
  unfold State.halt State.haltStream
  split <;> exact ⟨rfl, rfl, rfl, rfl, rfl⟩

end Sys2Proof.Machine
end

