-- ==== Sys2Proof/Laws/Memory.lean ====
section
/-! SUPPORT. What the memory operations keep and what a byte reads after them. -/

namespace Sys2Proof.Machine.Memory

theorem wfFrom_mono {lo lo' : Nat} {m : Memory} (h : lo' ≤ lo) (w : wfFrom lo m = true) : wfFrom lo' m = true := by
  cases m with
  | nil => rfl
  | cons c rest =>
    obtain ⟨k, v⟩ := c
    simp only [wfFrom, Bool.and_eq_true, decide_eq_true_eq] at w ⊢
    exact ⟨⟨⟨by omega, w.1.1.2⟩, w.1.2⟩, w.2⟩

theorem read_below {lo : Nat} {m : Memory} {a : Nat} (w : wfFrom lo m = true) (h : a < lo) : m.read a = unlisted := by
  induction m generalizing lo with
  | nil => rfl
  | cons c rest ih =>
    obtain ⟨k, v⟩ := c
    simp only [wfFrom, Bool.and_eq_true, decide_eq_true_eq] at w
    have hk : a ≠ k := by omega
    simp only [read, hk, if_false]
    exact ih w.2 (by omega)

theorem put_wfFrom {lo : Nat} {m : Memory} {a : Nat} {v : Byte} (ha : a < poolBytes) (hlo : lo ≤ a)
    (w : wfFrom lo m = true) : wfFrom lo (m.put a v) = true := by
  induction m generalizing lo with
  | nil =>
    unfold put
    split
    · rfl
    · next hv => simp [wfFrom, hlo, ha, hv]
  | cons c rest ih =>
    obtain ⟨k, x⟩ := c
    have w' := w
    simp only [wfFrom, Bool.and_eq_true, decide_eq_true_eq] at w
    obtain ⟨⟨⟨h1, h2⟩, h3⟩, h4⟩ := w
    unfold put
    split
    · next hak =>
      split
      · exact w'
      · next hv =>
        simp only [wfFrom, Bool.and_eq_true, decide_eq_true_eq]
        exact ⟨⟨⟨hlo, ha⟩, hv⟩, ⟨⟨⟨by omega, h2⟩, h3⟩, h4⟩⟩
    · split
      · next hak =>
        split
        · exact wfFrom_mono (by omega) h4
        · next hv =>
          subst hak
          simp only [wfFrom, Bool.and_eq_true, decide_eq_true_eq]
          exact ⟨⟨⟨hlo, ha⟩, hv⟩, h4⟩
      · simp only [wfFrom, Bool.and_eq_true, decide_eq_true_eq]
        exact ⟨⟨⟨h1, h2⟩, h3⟩, ih (by omega) h4⟩

theorem read_put {lo : Nat} {m : Memory} {a b : Nat} {v : Byte} (w : wfFrom lo m = true) :
    (m.put a v).read b = if b = a then v else m.read b := by
  induction m generalizing lo with
  | nil =>
    unfold put
    split
    · next hv => by_cases hb : b = a <;> simp [read, hb, hv]
    · rfl
  | cons c rest ih =>
    obtain ⟨k, x⟩ := c
    have w' := w
    simp only [wfFrom, Bool.and_eq_true, decide_eq_true_eq] at w
    obtain ⟨⟨⟨h1, h2⟩, h3⟩, h4⟩ := w
    unfold put
    split
    · next hak =>
      split
      · next hv =>
        by_cases hb : b = a
        · subst hb
          have hk : b ≠ k := by omega
          simp only [read, hk, if_false, if_true, hv]
          exact read_below h4 (by omega)
        · simp [hb]
      · rfl
    · split
      · next hak =>
        subst hak
        split
        · next hv =>
          by_cases hb : b = a
          · subst hb
            simp only [if_true, hv]
            exact read_below h4 (by omega)
          · simp [read, hb]
        · by_cases hb : b = a <;> simp [read, hb]
      · next h5 h6 =>
        simp only [read, ih h4]
        by_cases hb : b = k
        · subst hb; simp [Ne.symm h6]
        · simp [hb]

/-- A write of one byte keeps the canonical form. -/
theorem wf_write {m : Memory} (w : m.wf = true) (a : Nat) (v : Byte) : (m.write a v).wf = true := by
  unfold write
  split
  · next h => exact put_wfFrom h (Nat.zero_le a) w
  · exact w

/-- What a byte reads after a write of one byte. -/
theorem read_write {m : Memory} (w : m.wf = true) {a : Nat} (h : a < poolBytes) (b : Nat) (v : Byte) :
    (m.write a v).read b = if b = a then v else m.read b := by
  simp only [write, h, if_true]
  exact read_put w

/-- A write of bytes keeps the canonical form. -/
theorem wf_writeBytes {m : Memory} (w : m.wf = true) (a : Nat) (bs : List Byte) : (m.writeBytes a bs).wf = true := by
  induction bs generalizing m a with
  | nil => exact w
  | cons b bs ih => exact ih (wf_write w a b) (a + 1)

/-- A byte outside the bytes written reads as before. -/
theorem read_writeBytes_outside {m : Memory} (w : m.wf = true) {a b : Nat} (bs : List Byte)
    (h : b < a ∨ a + bs.length ≤ b) : (m.writeBytes a bs).read b = m.read b := by
  induction bs generalizing m a with
  | nil => rfl
  | cons x bs ih =>
    simp only [List.length_cons] at h
    show ((m.write a x).writeBytes (a + 1) bs).read b = m.read b
    rw [ih (wf_write w a x) (by omega)]
    by_cases ha : a < poolBytes
    · rw [read_write w ha]
      have hb : b ≠ a := by omega
      simp [hb]
    · simp [write, ha]

theorem wfFrom_filter {lo : Nat} {m : Memory} (p : Nat × Byte → Bool) (w : wfFrom lo m = true) :
    wfFrom lo (m.filter p) = true := by
  induction m generalizing lo with
  | nil => rfl
  | cons c rest ih =>
    obtain ⟨k, v⟩ := c
    have w' := w
    simp only [wfFrom, Bool.and_eq_true, decide_eq_true_eq] at w
    obtain ⟨⟨⟨h1, h2⟩, h3⟩, h4⟩ := w
    simp only [List.filter_cons]
    split
    · simp only [wfFrom, Bool.and_eq_true, decide_eq_true_eq]
      exact ⟨⟨⟨h1, h2⟩, h3⟩, ih h4⟩
    · exact wfFrom_mono (by omega) (ih h4)

/-- A zero fill keeps the canonical form. -/
theorem wf_zero {m : Memory} (w : m.wf = true) (a n : Nat) : (m.zero a n).wf = true := wfFrom_filter _ w

theorem wf_zeroBlocks {m : Memory} (w : m.wf = true) (r : BlockRange) : (m.zeroBlocks r).wf = true := wf_zero w _ _

/-- What a byte reads after a zero fill. -/
theorem read_zero (m : Memory) (a n b : Nat) :
    (m.zero a n).read b = if a ≤ b ∧ b < a + n then unlisted else m.read b := by
  induction m with
  | nil => simp [zero, read]
  | cons c rest ih =>
    obtain ⟨k, v⟩ := c
    unfold zero at ih ⊢
    simp only [List.filter_cons]
    split
    · next hk =>
      simp only [decide_eq_true_eq] at hk
      simp only [read, ih]
      by_cases hb : b = k
      · subst hb
        have : ¬(a ≤ b ∧ b < a + n) := by omega
        simp [this]
      · simp [hb]
    · next hk =>
      simp only [decide_eq_true_eq] at hk
      rw [ih]
      by_cases hb : b = k
      · subst hb
        have : a ≤ b ∧ b < a + n := by omega
        simp [this]
      · simp [read, hb]

/-- A memory built from cells is in canonical form. -/
theorem wf_ofCells (cells : List (Nat × Byte)) : (ofCells cells).wf = true := by
  have h : ∀ (l : List (Nat × Byte)) (m : Memory), m.wf = true → (l.foldl (fun m c => write m c.1 c.2) m).wf = true := by
    intro l
    induction l with
    | nil => intro m w; exact w
    | cons c l ih => intro m w; exact ih _ (wf_write w c.1 c.2)
  exact h cells [] rfl

theorem wf_nil : wf [] = true := rfl

end Sys2Proof.Machine.Memory
end

