-- ==== Sys2Proof/WellFormed.lean ====
section
/-! DEFINITION. Well-formed commands: operands in the ranges of their frames, and bytes that are the event the row names. -/

namespace Sys2Proof

open Machine

/-- A request body fits its frame (R170). -/
def bodyFits (body : List Byte) : Bool := decide (body.length ≤ Config.maxBody)

/-- The bytes of a line end a frame or a record, complete or broken. -/
def Machine.Received.ended : Received → Bool
  | .hunting => false
  | .partly => false
  | .broken => true
  | .complete _ _ => true

/-- The bytes of a line stop inside a frame or a record. -/
def Machine.Received.unfinished : Received → Bool
  | .partly => true
  | .hunting => false
  | .broken => false
  | .complete _ _ => false

/-- An answer of `n` bytes and a good check (R91). -/
def answerFits (n : Nat) (answer : List Byte) : Bool := (answerFields n answer).isSome

/-- A payload whose length a two-byte field holds (R157). -/
def scanTailFits : ScanTail → Bool
  | .complete payload _ => decide (payload.length < 65536)
  | .stopBitError => true

/-- A ciphertext of whole 16-byte units (R161). -/
def imgTailFits : ImgTail → Bool
  | .complete ciphertext _ _ => decide (ciphertext.length % 16 = 0 ∧ ciphertext.length ≤ 65536)
  | .stopBitError => true

/-- Well-formedness of a command. -/
def Instr.wf : Instr → Bool
  | .login b | .logout b | .touch b | .accountAdd b | .accountChange b | .accountUnlock b | .accountRemove b | .credit b
  | .accountRead b | .rateSet b | .areaSet b | .rateRead b | .rateQuote b | .jobOpen b | .jobClose b | .jobRead b
  | .queueRead b | .meterRead b | .slotRead b | .snapshotRead b | .rejectRemove b | .poolRead b | .streamBind b
  | .streamFlow b | .streamHold b | .streamClear b | .streamRelease b | .streamRead b | .documentErase b
  | .documentList b | .tamperClear b | .settingSet b | .settingRead b | .statusRead b | .factoryClear b => bodyFits b
  | .frameError line => (receiveCommand line).ended
  | .frameWhileSlotOccupied line => (receiveCommand line).ended
  | .cmdGapExpiry line => (receiveCommand line).unfinished
  | .engineRecordArrival line => (receiveRecord line).ended
  | .engineGapExpiry line => (receiveRecord line).unfinished
  | .drainExpiry job => decide (1 ≤ job ∧ job ≤ Config.maxNumber)
  | .cartIdentifyAnswer a => answerFits 16 a
  | .cartChallengeAnswer a => answerFits 8 a
  | .cartDebitAnswer a => answerFits 4 a
  | .scanFrameEnd tail => scanTailFits tail
  | .imgFrameEnd tail => imgTailFits tail
  | .cartBadAnswer _ | .cartInserted _ | .cartRemoved _ | .recheckExpiry _ | .flushExpiry _ | .streamIdleExpiry _
  | .scanArrivalBegin _ | .imgArrivalBegin _ | .supplyReset _ => true
  | .cmdTxSendComplete | .takeSheet | .takeJobEnd | .takeDamaged | .sessionIdleExpiry | .cartAnswerTimeout | .tamperEvent
  | .tamperRelease | .scanGapExpiry | .imgGapExpiry | .cipherEncodeComplete | .cipherReleaseComplete | .imgSendComplete
  | .videoSendComplete | .haltFillHalfComplete | .wipeRangeComplete | .fullFillComplete | .resetEnd => true

end Sys2Proof
end

