-- ==== Sys2Proof/Laws/PerInstr.lean ====
section
/-! SUPPORT. One law per command: what its well-formedness says of its fields. -/

namespace Sys2Proof.Laws.WellFormed

open Sys2Proof Sys2Proof.Machine

/-- What is known of a well-formed command: a request's body fits its frame; the bytes of a frame or a record end it, or break
off inside it; a drain names a job number; an answer has the length its transaction gives it. -/
def Known : Instr → Prop
  | .login b | .logout b | .touch b | .accountAdd b | .accountChange b | .accountUnlock b | .accountRemove b
  | .credit b | .accountRead b | .rateSet b | .areaSet b | .rateRead b | .rateQuote b | .jobOpen b | .jobClose b
  | .jobRead b | .queueRead b | .meterRead b | .slotRead b | .snapshotRead b | .rejectRemove b | .poolRead b
  | .streamBind b | .streamFlow b | .streamHold b | .streamClear b | .streamRelease b | .streamRead b
  | .documentErase b | .documentList b | .tamperClear b | .settingSet b | .settingRead b | .statusRead b
  | .factoryClear b => b.length ≤ 2040
  | .frameError line | .frameWhileSlotOccupied line => (receiveCommand line).ended = true
  | .cmdGapExpiry line => receiveCommand line = .partly
  | .engineRecordArrival line => (receiveRecord line).ended = true
  | .engineGapExpiry line => receiveRecord line = .partly
  | .drainExpiry n => 1 ≤ n ∧ n ≤ 65535
  | .cartIdentifyAnswer a => a.length = 18
  | .cartChallengeAnswer a => a.length = 10
  | .cartDebitAnswer a => a.length = 6
  | _ => True

/-- The law: well-formedness gives what is known. -/
def Statement (i : Instr) : Prop := i.wf = true → Known i

theorem body_length {b : List Byte} (h : bodyFits b = true) : b.length ≤ 2040 := of_decide_eq_true h

theorem drain_range {n : Nat} (h : decide (1 ≤ n ∧ n ≤ Config.maxNumber) = true) : 1 ≤ n ∧ n ≤ 65535 := of_decide_eq_true h

theorem unfinished_partly {r : Received} (h : r.unfinished = true) : r = .partly := by
  cases r <;> first | rfl | cases h

theorem answer_length {n : Nat} {a : List Byte} (h : answerFits n a = true) : a.length = n + 2 := by
  unfold answerFits answerFields at h
  split at h
  · next e => exact e.1
  · cases h

theorem login (body : List Byte) : Statement (.login body) := fun w => body_length w
theorem logout (body : List Byte) : Statement (.logout body) := fun w => body_length w
theorem touch (body : List Byte) : Statement (.touch body) := fun w => body_length w
theorem accountAdd (body : List Byte) : Statement (.accountAdd body) := fun w => body_length w
theorem accountChange (body : List Byte) : Statement (.accountChange body) := fun w => body_length w
theorem accountUnlock (body : List Byte) : Statement (.accountUnlock body) := fun w => body_length w
theorem accountRemove (body : List Byte) : Statement (.accountRemove body) := fun w => body_length w
theorem credit (body : List Byte) : Statement (.credit body) := fun w => body_length w
theorem accountRead (body : List Byte) : Statement (.accountRead body) := fun w => body_length w
theorem rateSet (body : List Byte) : Statement (.rateSet body) := fun w => body_length w
theorem areaSet (body : List Byte) : Statement (.areaSet body) := fun w => body_length w
theorem rateRead (body : List Byte) : Statement (.rateRead body) := fun w => body_length w
theorem rateQuote (body : List Byte) : Statement (.rateQuote body) := fun w => body_length w
theorem jobOpen (body : List Byte) : Statement (.jobOpen body) := fun w => body_length w
theorem jobClose (body : List Byte) : Statement (.jobClose body) := fun w => body_length w
theorem jobRead (body : List Byte) : Statement (.jobRead body) := fun w => body_length w
theorem queueRead (body : List Byte) : Statement (.queueRead body) := fun w => body_length w
theorem meterRead (body : List Byte) : Statement (.meterRead body) := fun w => body_length w
theorem slotRead (body : List Byte) : Statement (.slotRead body) := fun w => body_length w
theorem snapshotRead (body : List Byte) : Statement (.snapshotRead body) := fun w => body_length w
theorem rejectRemove (body : List Byte) : Statement (.rejectRemove body) := fun w => body_length w
theorem poolRead (body : List Byte) : Statement (.poolRead body) := fun w => body_length w
theorem streamBind (body : List Byte) : Statement (.streamBind body) := fun w => body_length w
theorem streamFlow (body : List Byte) : Statement (.streamFlow body) := fun w => body_length w
theorem streamHold (body : List Byte) : Statement (.streamHold body) := fun w => body_length w
theorem streamClear (body : List Byte) : Statement (.streamClear body) := fun w => body_length w
theorem streamRelease (body : List Byte) : Statement (.streamRelease body) := fun w => body_length w
theorem streamRead (body : List Byte) : Statement (.streamRead body) := fun w => body_length w
theorem documentErase (body : List Byte) : Statement (.documentErase body) := fun w => body_length w
theorem documentList (body : List Byte) : Statement (.documentList body) := fun w => body_length w
theorem tamperClear (body : List Byte) : Statement (.tamperClear body) := fun w => body_length w
theorem settingSet (body : List Byte) : Statement (.settingSet body) := fun w => body_length w
theorem settingRead (body : List Byte) : Statement (.settingRead body) := fun w => body_length w
theorem statusRead (body : List Byte) : Statement (.statusRead body) := fun w => body_length w
theorem factoryClear (body : List Byte) : Statement (.factoryClear body) := fun w => body_length w
theorem frameError (line : List LineByte) : Statement (.frameError line) := fun w => w
theorem frameWhileSlotOccupied (line : List LineByte) : Statement (.frameWhileSlotOccupied line) := fun w => w
theorem cmdGapExpiry (line : List LineByte) : Statement (.cmdGapExpiry line) := fun w => unfinished_partly w
theorem cmdTxSendComplete : Statement .cmdTxSendComplete := fun _ => trivial
theorem engineRecordArrival (line : List LineByte) : Statement (.engineRecordArrival line) := fun w => w
theorem engineGapExpiry (line : List LineByte) : Statement (.engineGapExpiry line) := fun w => unfinished_partly w
theorem takeSheet : Statement .takeSheet := fun _ => trivial
theorem takeJobEnd : Statement .takeJobEnd := fun _ => trivial
theorem takeDamaged : Statement .takeDamaged := fun _ => trivial
theorem drainExpiry (job : Nat) : Statement (.drainExpiry job) := fun w => drain_range w
theorem sessionIdleExpiry : Statement .sessionIdleExpiry := fun _ => trivial
theorem cartInserted (slot : Fin 4) : Statement (.cartInserted slot) := fun _ => trivial
theorem cartRemoved (slot : Fin 4) : Statement (.cartRemoved slot) := fun _ => trivial
theorem cartIdentifyAnswer (answer : List Byte) : Statement (.cartIdentifyAnswer answer) := fun w => answer_length w
theorem cartChallengeAnswer (answer : List Byte) : Statement (.cartChallengeAnswer answer) := fun w => answer_length w
theorem cartDebitAnswer (answer : List Byte) : Statement (.cartDebitAnswer answer) := fun w => answer_length w
theorem cartBadAnswer (answer : List Byte) : Statement (.cartBadAnswer answer) := fun _ => trivial
theorem cartAnswerTimeout : Statement .cartAnswerTimeout := fun _ => trivial
theorem recheckExpiry (slot : Fin 4) : Statement (.recheckExpiry slot) := fun _ => trivial
theorem flushExpiry (slot : Fin 4) : Statement (.flushExpiry slot) := fun _ => trivial
theorem tamperEvent : Statement .tamperEvent := fun _ => trivial
theorem tamperRelease : Statement .tamperRelease := fun _ => trivial
theorem scanArrivalBegin (header : ScanHeader) : Statement (.scanArrivalBegin header) := fun _ => trivial
theorem scanFrameEnd (tail : ScanTail) : Statement (.scanFrameEnd tail) := fun _ => trivial
theorem scanGapExpiry : Statement .scanGapExpiry := fun _ => trivial
theorem imgArrivalBegin (header : ImgHeader) : Statement (.imgArrivalBegin header) := fun _ => trivial
theorem imgFrameEnd (tail : ImgTail) : Statement (.imgFrameEnd tail) := fun _ => trivial
theorem imgGapExpiry : Statement .imgGapExpiry := fun _ => trivial
theorem cipherEncodeComplete : Statement .cipherEncodeComplete := fun _ => trivial
theorem cipherReleaseComplete : Statement .cipherReleaseComplete := fun _ => trivial
theorem imgSendComplete : Statement .imgSendComplete := fun _ => trivial
theorem videoSendComplete : Statement .videoSendComplete := fun _ => trivial
theorem streamIdleExpiry (stream : Fin 4) : Statement (.streamIdleExpiry stream) := fun _ => trivial
theorem haltFillHalfComplete : Statement .haltFillHalfComplete := fun _ => trivial
theorem wipeRangeComplete : Statement .wipeRangeComplete := fun _ => trivial
theorem fullFillComplete : Statement .fullFillComplete := fun _ => trivial
theorem supplyReset (cause : ResetCause) : Statement (.supplyReset cause) := fun _ => trivial
theorem resetEnd : Statement .resetEnd := fun _ => trivial

end Sys2Proof.Laws.WellFormed
end

