-- ==== Sys2Proof/Laws/Requests.lean ====
section
/-! SUPPORT. What taking a request does, said once: a statement about a request cites these instead of unfolding the frame. -/

namespace Sys2Proof.Machine

variable {s : State}

/-! ## The frame of an event -/

theorem outsideReset_in (h : s.resetting.isSome = true) (e : State → State) : outsideReset s e = s := by
  simp [outsideReset, h]

theorem outsideReset_out (h : s.resetting = none) (e : State → State) : outsideReset s e = (e s).finish := by
  simp [outsideReset, h]

/-! ## The frame of a request -/

theorem requestFrame_reset (h : s.resetting.isSome = true) (cls : Byte) (serve : State → Served) :
    requestFrame cls serve s = s := outsideReset_in h _

theorem requestFrame_serving (h : s.Serving) (cls : Byte) (serve : State → Served) :
    requestFrame cls serve s = ((serve s).1.reply (replyClass cls) (serve s).2).finish := by
  simp [requestFrame, outsideReset, h.1, h.2]

theorem requestFrame_occupied (h : s.resetting = none) (o : s.link.requestSlot.isSome = true) (cls : Byte)
    (serve : State → Served) : requestFrame cls serve s = (s.setLink (s.link.turnAway cls)).finish := by
  have : s.link.requestSlot.isNone = false := by simpa using o
  simp [requestFrame, outsideReset, h, this]

/-- A request that is answered OK. -/
theorem requestFrame_ok (h : s.Serving) {cls : Byte} {serve : State → Served} {t : State} {fields : List Byte}
    (e : serve s = okWith t fields) : Host.Outcome.next (requestFrame cls serve s) = t.answersOk (replyClass cls) fields := by
  rw [requestFrame_serving h, e]; rfl

/-- A request that is refused. -/
theorem requestFrame_no (h : s.Serving) {cls : Byte} {serve : State → Served} {t : State} {status : Status}
    (e : serve s = refuse t status) : Host.Outcome.next (requestFrame cls serve s) = t.answersNo (replyClass cls) status := by
  rw [requestFrame_serving h, e]; rfl

/-! ## The checks of the link interface and of the session -/

@[simp] theorem withParsed_none {α : Type} (serve : α → Served) : withParsed none s serve = refuse s .malformed := rfl
@[simp] theorem withParsed_some {α : Type} (r : α) (serve : α → Served) : withParsed (some r) s serve = serve r := rfl

@[simp] theorem parseEmpty_nil : parseEmpty [] = some () := rfl

theorem asAdmin_admin {se : Session} (h : s.session = some se) (a : s.isAdmin = true) (serve : State → Served) :
    asAdmin s serve = serve (s.used se) := by
  simp [asAdmin, a, s.touchSession_some h, State.used]

theorem asAdmin_other (a : s.isAdmin = false) (serve : State → Served) : asAdmin s serve = refuse s .notPermitted := by
  simp [asAdmin, a]

theorem asSession_some {se : Session} (h : s.session = some se) (serve : Session → State → Served) :
    asSession s serve = serve se (s.used se) := by
  simp [asSession, h, s.touchSession_some h, State.used]

theorem asSession_none (h : s.session = none) (serve : Session → State → Served) : asSession s serve = refuse s .noSession := by
  simp [asSession, h]

/-! ## Checks taken in order -/

@[simp] theorem firstApplies_nil (answered : Status → Prop) : firstApplies [] answered := trivial

theorem firstApplies_cons (c : Prop) (st : Status) (rest : List (Prop × Status)) (answered : Status → Prop) :
    firstApplies ((c, st) :: rest) answered ↔ (c → answered st) ∧ (¬c → firstApplies rest answered) := Iff.rfl

/-- The order of a statement's rows is the order in which the model looks for the first refusal. -/
theorem firstApplies_iff_firstRefusal (rows : List (Bool × Status)) (answered : Status → Prop) :
    firstApplies (rows.map fun x => (x.1 = true, x.2)) answered ↔ ∀ st, firstRefusal rows = some st → answered st := by
  induction rows with
  | nil => simp [firstRefusal]
  | cons x rest ih =>
    obtain ⟨c, st⟩ := x
    cases c <;> simp [firstRefusal, firstApplies_cons, ih]

/-! ## What a reply leaves alone -/

@[simp] theorem reply_accounts (c b) : (s.reply c b).accounts = s.accounts := rfl
@[simp] theorem reply_house (c b) : (s.reply c b).house = s.house := rfl
@[simp] theorem reply_session (c b) : (s.reply c b).session = s.session := rfl
@[simp] theorem reply_rates (c b) : (s.reply c b).rates = s.rates := rfl
@[simp] theorem reply_settings (c b) : (s.reply c b).settings = s.settings := rfl
@[simp] theorem reply_jobs (c b) : (s.reply c b).jobs = s.jobs := rfl
@[simp] theorem reply_queue (c b) : (s.reply c b).queue = s.queue := rfl
@[simp] theorem reply_meters (c b) : (s.reply c b).meters = s.meters := rfl
@[simp] theorem reply_cart (c b) : (s.reply c b).cart = s.cart := rfl
@[simp] theorem reply_pool (c b) : (s.reply c b).pool = s.pool := rfl
@[simp] theorem reply_streams (c b) : (s.reply c b).streams = s.streams := rfl
@[simp] theorem reply_ports (c b) : (s.reply c b).ports = s.ports := rfl
@[simp] theorem reply_cipher (c b) : (s.reply c b).cipher = s.cipher := rfl
@[simp] theorem reply_store (c b) : (s.reply c b).store = s.store := rfl
@[simp] theorem reply_tamper (c b) : (s.reply c b).tamper = s.tamper := rfl
@[simp] theorem reply_resetting (c b) : (s.reply c b).resetting = s.resetting := rfl
@[simp] theorem reply_draws (c b) : (s.reply c b).draws = s.draws := rfl
@[simp] theorem reply_pending (c b) : (s.reply c b).pending = s.pending := rfl

end Sys2Proof.Machine
end

