-- ==== Sys2Proof/Tests/Slice0.lean ====
section
/-! SUPPORT. The model's own tests: well-formedness refuses, layouts against the manual's bytes, charges, one step of many
commands, and for every statement with hypotheses a state and operands that meet them (witness_…). -/

namespace Sys2Proof.Tests.Slice0

open Sys2Proof Sys2Proof.Machine

/-! ## Small states -/

/-- The part at rest after its full fill: nothing on the output line. -/
def ready : State :=
  (State.reset.setLink emptyLink).setPool { mem := [], wipe := [], fill := none, waiting := [], underReset := false }

/-- A user account, number 7, with PIN 1234. -/
def guest : Account :=
  { userNumber := 7, role := .user, state := .active, pin := some [1, 2, 3, 4], failures := 0, colourRight := .full,
    boxRight := true, balance := 5000, arrears := 10, stage := .full, counters := {} }

/-- The guest at position 2 beside the factory account. -/
def office : State := ready.setAccounts [(1, factoryAccount), (2, guest)]

/-- The session OPEN on the factory ADMIN. -/
def admin : State := office.setSession (some { position := 1, idle := 400 })

/-- The session OPEN on the guest. -/
def panel : State := office.setSession (some { position := 2, idle := 400 })

/-- A job of the guest. -/
def someJob (n : Nat) (k : JobKind) : Job :=
  { number := n, kind := k, owner := 2, sizeClass := 1, colourClass := .mono, duplex := false, state := .opened,
    stopCause := none, engineEnded := false, initialHold := 30, holdRemaining := 30, short := false, sheets := 0,
    monoSides := 0, colourSides := 0, scanPages := 0, pointsCharged := 0, pointsDrawn := 0, pointsArrears := 0,
    colourUnexpected := false, stream := none, document := none, eraseAfterPrint := false, scanComplete := false,
    drain := none }

/-- A document of the guest, number 5. -/
def someDocument (st : DocState) (job : Option Nat) : Document :=
  { number := 5, owner := 2, state := st, key := 77, pages := 2, bands := 3, colour := false, sizeClass := 1, job := job }

/-- A cartridge that has passed its challenges. -/
def goodSlot : Slot :=
  { present := true, state := .genuine, serial := some 9, ratedYield := some 1000, tagRemaining := some 900,
    level := some .normal }

/-- Four good cartridges. -/
def toned (s : State) : State :=
  s.setCart { s.cart with slots := fourOf goodSlot, mono := true, colour := true }

def withJob (s : State) (j : Job) : State := s.setJobs { jobs := [(j.number, j)], lastNumber := j.number }

def withDocument (s : State) (d : Document) : State := s.setStore { docs := [d], lastNumber := d.number }

/-- The queue with a take in progress. -/
def taking (s : State) (e : QueueEntry) : State := s.setQueue { entries := [e], hold := false, taking := true }

/-- A transaction in progress on slot 1. -/
def talking (s : State) (sl : Slot) (w : LineWork) : State :=
  (s.setSlot 1 sl).setCart { (s.setSlot 1 sl).cart with transaction := some { slot := 1, work := w } }

/-- Stream 2 bound to job 3 and document 5, with a window of two halves of one block. -/
def someStream (k : StreamKind) (st : StreamState) : Stream :=
  { kind := some k, state := st, job := some 3, document := some 5, window := some { first := 10, perHalf := 1, halves := 2 },
    pageStart := true, pageClass := 1 }

def boundJob (k : JobKind) : Job := { someJob 3 k with stream := some 2, document := some 5 }

/-- The guest's SCAN or BOX_PRINT job 3 with stream 2 and document 5. -/
def streaming (k : JobKind) (st : Stream) : State :=
  withDocument (withJob (office.setStream 2 st) (boundJob k)) (someDocument .writing (some 3))

def page : Dots := { k := 500, c := 0, m := 0, y := 0 }
def sheet (tag : Nat) : SheetRecord := { tag := tag, sizeClass := 1, side1 := page, side2 := none }

/-- A supply reset in progress. -/
def inReset : State :=
  ready.setResetting (some { cause := .supply, writingErased := 0, tamperEvents := 0, tamperErased := 0 })

def nextOf (o : Answered) : Option State :=
  match o with
  | .next s => some s
  | .fault _ => none
  | .refused _ => none

/-- The status in the reply that a command leaves in the request slot. -/
def statusAfter (c : Instr) (s : State) : Option Byte :=
  ((nextOf (exec c s)).bind fun t => t.link.requestSlot).bind fun r => r.body.head?

/-! ## Well-formedness: one ill-formed term for each check, refused -/

theorem test_wf_refuses_long_body : Instr.wf (.login (List.replicate 2041 0)) = false := by decide +kernel
theorem test_wf_takes_longest_body : Instr.wf (.login (List.replicate 2040 0)) = true := by decide +kernel
theorem test_wf_refuses_frame_that_has_not_ended : Instr.wf (.frameError (goodLine [165, 0])) = false := by decide
theorem test_wf_refuses_unfinished_frame_at_slot : Instr.wf (.frameWhileSlotOccupied (goodLine [165])) = false := by decide
theorem test_wf_refuses_gap_outside_a_frame : Instr.wf (.cmdGapExpiry (goodLine [3, 4])) = false := by decide
theorem test_wf_takes_gap_inside_a_frame : Instr.wf (.cmdGapExpiry (goodLine [3, 165, 0])) = true := by decide
theorem test_wf_refuses_unfinished_record : Instr.wf (.engineRecordArrival (goodLine [90, 3, 2])) = false := by decide
theorem test_wf_refuses_gap_outside_a_record : Instr.wf (.engineGapExpiry (goodLine [1])) = false := by decide
theorem test_wf_refuses_job_number_zero : Instr.wf (.drainExpiry 0) = false := by decide
theorem test_wf_refuses_short_identity : Instr.wf (.cartIdentifyAnswer (lineMessage (be 4 1))) = false := by decide
theorem test_wf_refuses_bad_challenge_check : Instr.wf (.cartChallengeAnswer (List.replicate 10 0)) = false := by decide +kernel
theorem test_wf_refuses_long_debit : Instr.wf (.cartDebitAnswer (lineMessage (be 8 1))) = false := by decide
theorem test_wf_refuses_long_payload (p : List Byte) (h : p.length = 65536) :
    Instr.wf (.scanFrameEnd (.complete p 0)) = false := by
  show decide (p.length < 65536) = false
  rw [h]; decide
theorem test_wf_refuses_partial_unit : Instr.wf (.imgFrameEnd (.complete [1, 2] 0 0)) = false := by decide

/-! ## Layouts -/

/-- The check of the nine digits is AEE7 (polynomial 8005, register all ones, not inverted). -/
theorem test_check_of_digits : crc [49, 50, 51, 52, 53, 54, 55, 56, 57] = 0xAEE7#16 := by decide +kernel
/-- STATUS READ, class 34, as its frame. -/
theorem test_frame_is_received :
    receiveCommand (goodLine (commandFrame 34 [])) = .complete [0, 0, 34] true := by decide +kernel
theorem test_frame_with_wrong_check :
    receiveCommand (goodLine [165, 0, 0, 34, 0, 0]) = .complete [0, 0, 34] false := by decide +kernel
theorem test_frame_too_long_is_broken : receiveCommand (goodLine [165, 7, 249]) = .broken := by decide
theorem test_stop_bit_error_breaks :
    receiveCommand [{ value := 165 }, { value := 0, stopOk := false }] = .broken := by decide
theorem test_job_end_record : arrivalEntry (goodLine (engineRecord [2, 1, 2])) = some (.jobEnd 258) := by decide +kernel
theorem test_record_of_unknown_kind_is_damaged : arrivalEntry (goodLine (engineRecord [9])) = some .damaged := by decide +kernel
theorem test_sheet_record :
    arrivalEntry (goodLine (engineRecord ([1, 0, 3, 1, 1] ++ [0, 1, 244] ++ List.replicate 9 0))) = some (.sheet (sheet 3)) := by
  decide +kernel
theorem test_packed_digits : packedDigits 12345678 = [0x12, 0x34, 0x56, 0x78] := by decide

/-! ## Charges under the default tables (chapter 02) -/

/-- A blank MONO front of class 1: base 10 and no excess step. -/
theorem test_blank_side :
    (sideCharge defaultRates 200 1 .front { k := 0, c := 0, m := 0, y := 0 }).charge = 10 := by decide
/-- Full K coverage: total 1000, excess 80, charge 10 + 80. -/
theorem test_full_black_side :
    (sideCharge defaultRates 200 1 .front { k := 33990, c := 0, m := 0, y := 0 }).charge = 90 := by decide
/-- Full coverage on four planes at the largest weight: entry 26, base 240, step 2, excess 380. -/
theorem test_full_colour_side :
    let c := sideCharge defaultRates 200 6 .front { k := 194214, c := 194214, m := 194214, y := 194214 }
    c.entry = 26 ∧ c.total = 4000 ∧ c.excess = 380 ∧ c.charge = 1000 ∧ c.ceiling = false := by decide
theorem test_draws : drawOf 50 30 10 = { hold := 30, balance := 40, arrears := 10 } := by decide
theorem test_meter_fills : (Meter.mk 99999990 false).add 10 = { value := 99999999, full := true } := by decide

/-! ## Steps -/

theorem test_empty_queue_ticks : nextOf (step ready) = some ready := by decide
theorem test_front_command_runs :
    (nextOf (step (panel.setPending [.tamperRelease, .touch []]))).map (·.pending) = some [.touch []] := by decide
theorem test_idle_session_expires :
    (nextOf (step (office.setSession (some { position := 2, idle := 89999 })))).map (·.pending)
      = some [.sessionIdleExpiry] := by decide
theorem test_full_fill_frees_the_pool :
    (nextOf (exec .fullFillComplete State.reset)).map (fun s => (s.pool.underReset, s.pool.fill)) = some (false, none) := by
  decide
/-- The levels that TONER_LEVEL notices tell: slot, before and now. -/
def toldLevels (s : State) : List (Fin 4 × Option Level × Option Level) :=
  s.link.notices.filterMap fun n => match n with
    | .tonerLevel r => some (r.slot, r.before, r.now)
    | _ => none

/-- The slots that CARTRIDGE_STATE notices tell of, in their order. -/
def toldSlots (s : State) : List (Fin 4) :=
  s.link.notices.filterMap fun n => match n with
    | .cartridgeState r => some r.slot
    | _ => none

/-- Four good cartridges, and the output line busy with a reply. -/
def busyToned : State := toned (ready.setLink { emptyLink with tx := .reply .request })

/-- A DEBIT answer that leaves the slot LOW and rejects it, whose discard makes it NORMAL again, tells the level (R117). -/
theorem test_returned_level_is_told :
    let s := talking busyToned { goodSlot with state := .suspect, fails := 5, pending := 40 } (.debit 40)
    ((nextOf (exec (.cartDebitAnswer (lineMessage (be 4 100))) s)).map toldLevels) =
      some [(1, some .normal, some .normal)] := by decide +kernel

/-- A lowered fail limit rejects slots 0 and 1 and slot 0's twin, slot 2; the notices come by slot number (R108). -/
theorem test_rejections_are_told_in_slot_order :
    let bad (n : Serial) : Slot := { goodSlot with state := .suspect, fails := 5, serial := some n, recheck := some 0 }
    let s := (((busyToned.setSlot 0 (bad 7)).setSlot 1 (bad 8)).setSlot 2 { goodSlot with serial := some 7 })
    toldSlots (s.changeSetting 6 5) = [0, 1, 2] ∧ (s.changeSetting 6 5).cart.rejectList = [7, 8] := by decide +kernel

/-- A SCAN job holds the duplex flag it was opened with (R34). -/
theorem test_duplex_as_opened :
    (office.newJob 2 { kind := .scan, user := 0, estimate := 1, sizeClass := 1, colourClass := .mono, duplex := true,
                       document := 0, erase := false } 1 none).duplex = true := by decide

theorem test_no_word_is_a_command : decodeTableWord 8 1 = none := by decide

/-! ## Witnesses: a state and operands that meet the hypotheses of each statement -/

theorem witness_EmptyQueueIsOneTick :
    panel.pending = [] ∧ panel.resetting = none ∧ inReset.pending = [] ∧ inReset.resetting.isSome = true := by decide

theorem witness_EmptyQueueIsOneTick_expiries :
    let s := withJob (talking (toned ready) { goodSlot with state := .suspect, recheck := some 4999, flush := some 1999 } .identify)
      { someJob 3 .copy with state := .closing, drain := some 119999 }
    let t := (s.setCart { s.cart with transaction := s.cart.transaction.map fun x => { x with elapsed := 24 } }).setStream 2
      { someStream .encode .flow with idle := some 2999 }
    (nextOf (step t)).map (·.pending) =
      some [.drainExpiry 3, .recheckExpiry 1, .flushExpiry 1, .streamIdleExpiry 2, .cartAnswerTimeout] := by decide

theorem witness_FramesReadBack :
    (List.replicate 2040 (0 : Byte)).length ≤ 2040 ∧ (sheet 65535).tag < 65536 ∧ (sheet 65535).sizeClass ≤ 7 ∧
    page.k < 16777216 ∧ page.c < 16777216 ∧ page.m < 16777216 ∧ page.y < 16777216 := by
  refine ⟨by rw [List.length_replicate], ?_⟩; decide

/-- A broken frame, one with a bad check, a gap, and a good frame at an occupied slot. -/
def occupied : State := ready.setLink { emptyLink with requestSlot := some { replyClass := 129, body := [0] }, ready := [.request] }

theorem witness_UnservedFramesAreAnswered :
    ready.resetting = none ∧ ready.link.requestSlot = none ∧ receiveCommand (goodLine [165, 7, 249]) = .broken ∧
    receiveCommand (goodLine [165, 0, 0, 34, 0, 0]) = .complete [0, 0, 34] false ∧
    receiveCommand (goodLine [165, 0]) = .partly ∧
    occupied.resetting = none ∧ occupied.link.requestSlot.isSome = true ∧ (34 : Byte).toNat < 128 ∧
    receiveCommand (goodLine (commandFrame 34 [])) = .complete [0, 0, 34] true ∧
    classAndBody [0, 0, 34] = some (34, []) := by decide +kernel

theorem witness_OutputLineTakesRepliesFirst :
    State.reset.resetting = none ∧ State.reset.link.tx ≠ .idle ∧ occupied.link.tx = .idle ∧
    occupied.link.ready = .request :: [] ∧ ready.link.ready = [] ∧
    (ready.link.post (.restart .supply 0 {} false)).notices = [.restart .supply 0 {} false] := by decide

/-- 64 notices of different subjects. -/
def fullLink : Link :=
  { emptyLink with notices := (List.range 64).map fun n => .jobStop n 7 .credit }

theorem witness_PostingKeepsOrder :
    (∃ h ∈ fullLink.notices, h.key = (Notice.jobStop 3 7 .tamper).key) ∧
    (∀ h ∈ emptyLink.notices, h.key ≠ (Notice.jobStop 3 7 .tamper).key) ∧ emptyLink.notices.length < 64 ∧
    (∀ h ∈ fullLink.notices, h.key ≠ (Notice.jobStop 64 7 .tamper).key) ∧ 64 ≤ fullLink.notices.length := by decide

theorem ready_serves : ready.Serving := ⟨rfl, rfl⟩
theorem office_serves : office.Serving := ⟨rfl, rfl⟩
theorem admin_serves : admin.Serving := ⟨rfl, rfl⟩
theorem panel_serves : panel.Serving := ⟨rfl, rfl⟩

theorem witness_OpenReadsChangeNothing :
    (withJob office (someJob 65535 .copy)).Serving ∧ 65535 < 65536 ∧
    (withJob office (someJob 65535 .copy)).job 65535 = some (someJob 65535 .copy) ∧
    (withJob office (someJob 65535 .copy)).job 0 = none ∧ (3 : Fin 4).val = 3 ∧ 4 ≤ 255 ∧ 255 < 256 :=
  ⟨⟨rfl, rfl⟩, by decide⟩

def addBody : List Byte := be 4 8 ++ [0, 1, 1] ++ [4, 1, 2, 3, 4, 0, 0, 0, 0]
def changeBody : List Byte := be 4 7 ++ [0, 0, 1, 1, 0] ++ List.replicate 9 0
def creditBody : List Byte := be 4 7 ++ [0] ++ be 4 100 ++ [1]
def openAs (k : Byte) (user estimate : Nat) (colour : Byte) (document : Nat) : List Byte :=
  [k] ++ be 4 user ++ be 2 estimate ++ [1, colour, 0] ++ be 2 document ++ [1]
def openBody (k : Byte) : List Byte := openAs k 7 9999 0 5
def bindBody : List Byte := be 1 2 ++ be 2 3 ++ be 2 10 ++ be 1 1 ++ be 1 2

theorem witness_RequestsAreCheckedFirst :
    ready.Serving ∧ parseLogin [] = none ∧ parseAccountAdd [] = none ∧ parseJobOpen [9] = none ∧ ready.isAdmin = false ∧
    ready.session = none ∧ (parseAccountAdd addBody).isSome = true ∧ (parseAccountChange changeBody).isSome = true ∧
    (parseCredit creditBody).isSome = true ∧ (parseRateSet [0, 31, 0, 1, 0, 1]).isSome = true ∧
    (parseAreaSet (7 :: be 4 1)).isSome = true ∧ (parseSettingSet (12 :: be 4 1)).isSome = true ∧
    ((parseJobOpen (openBody 0)).map (·.kind)) = some .copy ∧ (parseStreamBind bindBody).isSome = true :=
  ⟨ready_serves, by decide⟩

theorem witness_RequestsAreCheckedFirst_misshapen :
    parseAccountChange [] = none ∧ parseCredit [] = none ∧ parseRateSet [] = none ∧ parseAreaSet [] = none ∧
    parseRateQuote [] = none ∧ parseStreamBind [] = none ∧ parseSettingSet [] = none ∧ ([0] : List Byte) ≠ [] ∧
    ([] : List Byte).length ≠ 1 := by decide

def loginBody (digits : List Byte) : List Byte := be 4 7 ++ [4] ++ digits ++ List.replicate 4 0

theorem witness_LoginChecksThePin :
    office.Serving ∧ office.session = none ∧ panel.session.isSome = true ∧
    parseLogin (loginBody [1, 2, 3, 4]) = some { user := 7, pin := [1, 2, 3, 4] } ∧
    office.findUser 7 = some (2, guest) ∧ guest.state = .active ∧ guest.pin = some [1, 2, 3, 4] ∧
    parseLogin (loginBody [4, 3, 2, 1]) = some { user := 7, pin := [4, 3, 2, 1] } ∧ [4, 3, 2, 1] ≠ ([1, 2, 3, 4] : List Byte) ∧
    guest.failures + 1 < 5 ∧ 5 ≤ { guest with failures := 4 }.failures + 1 := ⟨office_serves, by decide⟩

/-- The office with the guest's record changed. -/
def officeWith (a : Account) : State := ready.setAccounts [(1, factoryAccount), (2, a)]

theorem witness_LoginChecksThePin_refusals :
    office.findUser 8 = none ∧ (officeWith { guest with state := .suspended }).findUser 7 = some (2, { guest with state := .suspended }) ∧
    (officeWith { guest with state := .locked }).findUser 7 = some (2, { guest with state := .locked }) ∧
    parseLogin (be 4 0 ++ List.replicate 9 0) = some { user := 0, pin := [] } ∧
    8 < (9 : Byte).toNat ∧ (∃ d ∈ ([1, 10, 0, 0, 0, 0, 0, 0] : List Byte).take 2, 9 < d.toNat) ∧
    (officeWith { guest with pin := none }).findUser 7 = some (2, { guest with pin := none }) := by decide

theorem witness_SessionEndStopsReleases :
    let s := (streaming .boxPrint (someStream .release .flow)).setSession (some { position := 2, idle := 0 })
    s.Serving ∧ s.jobs.InOrder ∧ s.session = some { position := 2, idle := 0 } ∧ s.job 3 = some (boundJob .boxPrint) ∧
    (boundJob .boxPrint).active = true ∧ (s.stream 2).kind = some .release ∧ (s.stream 2).holdOrFlow = true ∧
    (s.stream 2).job = some 3 := ⟨⟨rfl, rfl⟩, ⟨by decide, by decide⟩, by decide⟩

/-- The idle expiry while a reply waits, with an ENCODE stream and another's stream beside it. -/
theorem witness_SessionEndStopsReleases_expiry :
    let s := occupied.setSession (some { position := 2, idle := 90000 })
    s.resetting = none ∧ s.link.requestSlot.isSome = true ∧ s.link.notices.length < 64 ∧
    (nextOf (exec .sessionIdleExpiry s)).map (fun u => (u.session, u.link.notices)) = some (none, [.sessionEnd .idle 0]) ∧
    (someStream .encode .flow).kind ≠ some .release ∧ { boundJob .boxPrint with owner := 1 }.owner ≠ 2 := by decide

theorem witness_AccountsComeAndGo :
    admin.Serving ∧ admin.session = some { position := 1, idle := 400 } ∧ admin.isAdmin = true ∧
    parseAccountAdd addBody = some { user := 8, role := .user, colourRight := .mono, boxRight := true, pin := .digits [1, 2, 3, 4] } ∧
    admin.findUser 8 = none ∧ admin.account 3 = none ∧ (∀ q ∈ [1, 2], (admin.account q).isSome = true) ∧
    admin.findUser 7 = some (2, guest) ∧ admin.onlyAdmin 2 = false ∧ admin.jobsOf 2 = [] ∧
    (withJob admin (someJob 3 .copy)).jobsOf 2 ≠ [] := ⟨admin_serves, by decide⟩

theorem witness_AccountChangeReplacesFields :
    admin.Serving ∧ admin.isAdmin = true ∧ admin.findUser 7 = some (2, guest) ∧ admin.onlyAdmin 2 = false ∧
    parseAccountChange changeBody
      = some { user := 7, role := .user, state := .active, colourRight := .mono, boxRight := true, action := .keep } ∧
    guest.state ≠ .suspended ∧ { guest with state := .suspended }.state = AccountState.suspended ∧
    (admin.account 1).map (·.role) = some .admin ∧
    (parseAccountChange (be 4 1 ++ [1, 1, 0, 1, 1] ++ List.replicate 9 0)).map (·.state) = some .suspended ∧
    admin.findUser 1 = some (1, factoryAccount) := ⟨admin_serves, by decide⟩

/-- SUSPENDED given to the guest, whose session has ended: applied in the ADMIN's session, which stays open, and refused
NOT_PERMITTED while the session is NONE (R5, R7, R16; log 38). -/
theorem test_change_after_the_session_ended :
    let body : List Byte := be 4 7 ++ [0, 1, 1, 1, 0] ++ List.replicate 9 0
    (nextOf (exec (.accountChange body) admin)).map
      (fun u => ((u.account 2).map (·.state), u.session, u.link.notices)) =
        some (some .suspended, some { position := 1, idle := 0 }, []) ∧
    statusAfter (.accountChange body) office = some Status.notPermitted.code := by decide

theorem witness_CreditMovesTheBalance :
    admin.Serving ∧ admin.isAdmin = true ∧ admin.session = some { position := 1, idle := 400 } ∧
    parseCredit creditBody = some { user := 7, subtract := false, amount := 100, clearArrears := true } ∧
    parseCredit (be 4 7 ++ [1] ++ be 4 16000001 ++ [0])
      = some { user := 7, subtract := true, amount := 16000001, clearArrears := false } ∧
    admin.findUser 7 = some (2, guest) ∧ admin.account 2 = some guest := ⟨admin_serves, by decide⟩

theorem witness_SessionReadsChangeOnlyTheTimer :
    panel.Serving ∧ panel.session = some { position := 2, idle := 400 } ∧ panel.findUser 7 = some (2, guest) ∧
    (panel.account 2).map (·.userNumber) = some 7 ∧ admin.isAdmin = true := ⟨panel_serves, by decide⟩

theorem witness_SessionReadsChangeOnlyTheTimer_refusals :
    panel.isAdmin = false ∧ (panel.account 2).map (·.userNumber) ≠ some 0 ∧ 4294967295 < 4294967296 ∧
    99999999 < 100000000 ∧ admin.findUser 99999999 = none ∧
    statusAfter (.accountRead (be 4 0)) panel = some Status.notPermitted.code ∧
    statusAfter (.accountRead (be 4 100000000)) admin = some Status.range.code ∧
    statusAfter (.accountRead (be 4 99999999)) admin = some Status.noAccount.code := by decide

theorem witness_RateAndAreaSetClamp :
    admin.Serving ∧ admin.session = some { position := 1, idle := 400 } ∧ admin.isAdmin = true ∧ 31 < 32 ∧ 32 ≤ 255 :=
  ⟨admin_serves, by decide⟩

theorem witness_SideChargeFollowsTheStages : 1 ≤ defaultRates.areaOf 7 ∧ 1 ≤ defaultRates.areaOf 8 := by decide

theorem witness_RateQuotePricesWithoutSettling :
    ready.Serving ∧ parseRateQuote ([1, 1] ++ page.bytes) = some (sheet 0) ∧
    (parseRateQuote ([1, 2] ++ page.bytes ++ page.bytes)).map (·.side2) = some (some page) := ⟨ready_serves, by decide⟩

def copyOpen : OpenRequest :=
  { kind := .copy, user := 7, estimate := 9999, sizeClass := 1, colourClass := .mono, duplex := false, document := 5, erase := true }

theorem witness_CopyAndPrintOpensSetAHold :
    (toned panel).Serving ∧ parseJobOpen (openBody 0) = some copyOpen ∧
    parseJobOpen (openBody 1) = some { copyOpen with kind := .print } ∧
    (toned panel).session = some { position := 2, idle := 400 } ∧ (toned panel).findUser 7 = some (2, guest) ∧
    (toned panel).account 2 = some guest ∧ (toned panel).jobs.jobs.length < 16 ∧ guest.state = .active ∧
    guest.stage ≠ .stopped ∧ (toned panel).cart.mono = true ∧ (toned panel).cart.colour = true ∧ guest.colourRight = .full ∧
    guest.stage = .full := ⟨⟨rfl, rfl⟩, by decide⟩

/-- Each check of R37 and R38 refuses a COPY or PRINT open that meets no earlier one. -/
theorem test_copy_and_print_refusals :
    let guests (a : Account) : State := toned (officeWith a)
    let full : State := (guests guest).setJobs { jobs := (List.range 16).map fun n => (n + 1, someJob (n + 1) .copy), lastNumber := 16 }
    statusAfter (.jobOpen (openAs 0 7 10000 0 5)) panel = some Status.range.code ∧
    [statusAfter (.jobOpen (openAs 1 7 0 0 5)) office, statusAfter (.jobOpen (openAs 1 0 1 0 5)) office,
     statusAfter (.jobOpen (openAs 1 8 1 0 5)) office, statusAfter (.jobOpen (openBody 1)) full,
     statusAfter (.jobOpen (openBody 1)) (guests { guest with state := .suspended, stage := .stopped }),
     statusAfter (.jobOpen (openBody 1)) (guests { guest with state := .locked }),
     statusAfter (.jobOpen (openBody 1)) (guests { guest with stage := .stopped }),
     statusAfter (.jobOpen (openAs 1 7 1 1 5)) (guests { guest with colourRight := .mono, stage := .limited }),
     statusAfter (.jobOpen (openAs 1 7 1 1 5)) (guests { guest with stage := .limited }),
     statusAfter (.jobOpen (openAs 1 7 1 1 5)) office, statusAfter (.jobOpen (openBody 0)) panel] =
    [.range, .range, .noAccount, .tableFull, .suspended, .locked, .noCredit, .notPermitted, .colourLimited, .tonerUnavailable,
     .tonerUnavailable].map fun st => some (Status.code st) := by decide +kernel

/-- Each check of R37 and R38 that a SCAN or BOX_PRINT open can meet first. -/
theorem test_scan_and_box_refusals :
    let at2 (s : State) : State := toned (s.setSession (some { position := 2, idle := 400 }))
    let boxless := at2 (officeWith { guest with boxRight := false })
    let latched := (at2 office).setTamper { latch := true, input := false }
    let coloured := at2 (withDocument (officeWith { guest with colourRight := .mono }) { someDocument .stored none with colour := true })
    let limited := at2 (withDocument (officeWith { guest with stage := .limited }) { someDocument .writing none with colour := true })
    let capped := let s := at2 (withDocument office (someDocument .writing none))
      s.setSettings { s.settings with boxPolicy := .recycle, ownerCap := 1 }
    [statusAfter (.jobOpen (openAs 2 7 0 0 5)) panel, statusAfter (.jobOpen (openAs 3 7 1 0 0)) panel,
     statusAfter (.jobOpen (openBody 3)) coloured, statusAfter (.jobOpen (openBody 3)) limited,
     statusAfter (.jobOpen (openBody 3)) panel, statusAfter (.jobOpen (openBody 2)) boxless,
     statusAfter (.jobOpen (openBody 2)) latched, statusAfter (.jobOpen (openBody 2)) capped,
     statusAfter (.jobOpen (openBody 3)) (at2 office), statusAfter (.jobOpen (openBody 3)) capped,
     statusAfter (.jobOpen (openBody 3)) (at2 (withDocument office (someDocument .stored (some 9))))] =
    [.range, .range, .notPermitted, .colourLimited, .tonerUnavailable, .notPermitted, .tampered, .storeFull, .noDocument,
     .noDocument, .inUse].map fun st => some (Status.code st) := by decide +kernel

theorem witness_DocumentJobsBindTheirDocument :
    let s := toned (withDocument panel (someDocument .stored none))
    s.Serving ∧ s.jobs.InOrder ∧ parseJobOpen (openBody 2) = some { copyOpen with kind := .scan } ∧
    parseJobOpen (openBody 3) = some { copyOpen with kind := .boxPrint } ∧
    s.session = some { position := 2, idle := 400 } ∧ s.account 2 = some guest ∧ s.store.docs.length ≤ 64 ∧
    guest.boxRight = true ∧ s.tamper.latch = false ∧
    max ((s.store.docs.filter fun d => d.owner == 2).length + 1 - s.settings.ownerCap) (s.store.docs.length - 63) = 0 ∧
    s.document 5 = some (someDocument .stored none) ∧ s.cart.mono = true ∧
    (someDocument .stored (some 9)).job.isSome = true := ⟨⟨rfl, rfl⟩, ⟨by decide, by decide⟩, by decide⟩

theorem witness_JobCloseEndsOrDrains :
    let s := withJob office (someJob 3 .copy)
    let t := withJob office { someJob 3 .scan with scanComplete := true, document := some 5 }
    let u := withJob office { someJob 3 .copy with state := .closing, drain := some 7 }
    s.Serving ∧ s.jobs.InOrder ∧ t.jobs.InOrder ∧ s.job 3 = some (someJob 3 .copy) ∧ (someJob 3 .copy).state ≠ .closing ∧
    (someJob 3 .copy).stream = none ∧ (t.job 3).map (·.kind) = some .scan ∧ (u.job 3).map (·.state) = some .closing :=
  ⟨⟨rfl, rfl⟩, ⟨by decide, by decide⟩, ⟨by decide, by decide⟩, by decide⟩

theorem witness_JobCloseEndsOrDrains_refusals :
    let s := streaming .scan (someStream .encode .flow)
    let t := streaming .scan { someStream .encode .hold with half1 := { state := .sending } }
    s.Serving ∧ s.job 3 = some (boundJob .scan) ∧ (boundJob .scan).stream = some 2 ∧ (s.stream 2).state = .flow ∧
    ((t.stream 2).half true).state = .sending ∧ s.job 65535 = none ∧
    [statusAfter (.jobClose (be 2 3)) s, statusAfter (.jobClose (be 2 3)) t, statusAfter (.jobClose (be 2 65535)) s] =
      [.busy, .busy, .range].map fun st => some (Status.code st) := ⟨⟨rfl, rfl⟩, by decide⟩

theorem witness_JobsLeaveTheTable :
    let s := taking (withJob office { someJob 3 .copy with state := .closing, drain := some 7 }) (.jobEnd 3)
    s.resetting = none ∧ s.jobs.InOrder ∧ s.queue.taking = true ∧ s.queue.entries = .jobEnd 3 :: [] ∧
    (s.job 3).map (·.state) = some .closing ∧ s.job 4 = none ∧
    ((taking (withJob office (someJob 3 .print)) (.jobEnd 3)).job 3).map (·.state) = some .opened ∧
    ((taking (withJob office (someJob 3 .scan)) (.jobEnd 3)).job 3).map (·.kind) = some .scan :=
  ⟨rfl, ⟨by decide, by decide⟩, by decide⟩

theorem witness_SheetSettlesAgainstItsJob :
    let s := taking (withJob office (someJob 3 .copy)) (.sheet (sheet 3))
    s.resetting = none ∧ s.jobs.InOrder ∧ s.queue.taking = true ∧ s.queue.entries = .sheet (sheet 3) :: [] ∧
    (sheet 3).tag ≠ 0 ∧ s.job 3 = some (someJob 3 .copy) ∧ (someJob 3 .copy).sheets < 8000000 ∧ s.account 2 = some guest ∧
    1000000 ≤ { someJob 3 .copy with sheets := 999999 }.sheets + 1 :=
  ⟨rfl, ⟨by decide, by decide⟩, by decide⟩

theorem witness_StagesFollowTheTable :
    defaultSettings.stop ≤ defaultSettings.caution ∧ (withJob office (someJob 3 .copy)).jobs.InOrder ∧
    (withJob office (someJob 3 .copy)).account 2 = some guest ∧
    (let s := withJob (office.setAccounts [(2, { guest with balance := 129 })]) (someJob 3 .copy)
     stageAfter s.settings .full (s.available 2) = .stopped) := ⟨by decide, ⟨by decide, by decide⟩, by decide⟩

theorem witness_ArrivalsJoinTheTailOrAreLost :
    office.resetting = none ∧ arrivalEntry (goodLine (engineRecord [2, 0, 3])) = some (.jobEnd 3) ∧
    office.queue.entries.length < 32 ∧ receiveRecord (goodLine [90, 3]) = .partly ∧
    32 ≤ (office.setQueue { entries := List.replicate 32 .damaged, hold := true, taking := true }).queue.entries.length ∧
    receiveRecord [{ value := 90 }, { value := 0, stopOk := false }] = .broken := by decide +kernel

/-- A gap inside a record at 32 entries loses it. -/
theorem test_gap_loses_a_record :
    (nextOf (exec (.engineGapExpiry (goodLine [90, 3]))
      (office.setQueue { entries := List.replicate 32 .damaged, hold := true, taking := true }))).map
      (fun u => (u.queue.entries.length, u.meters.lostRecords.value)) = some (32, 1) := by decide +kernel

theorem witness_DamagedEntriesAreCounted :
    (taking office .damaged).resetting = none ∧ (taking office .damaged).queue.taking = true ∧
    (taking office .damaged).queue.entries = .damaged :: [] := by decide

theorem witness_UnattributedSheetsGoToTheHouse :
    (taking office (.sheet (sheet 0))).resetting = none ∧ (taking office (.sheet (sheet 0))).queue.taking = true ∧
    (sheet 0).tag = 0 ∧ office.job 9 = none ∧ (withJob office (someJob 3 .scan)).job 3 = some (someJob 3 .scan) ∧
    8000000 ≤ { someJob 3 .copy with sheets := 8000000 }.sheets := by decide

theorem witness_MetersSaturate :
    (Meter.mk 99999999 true).value ≤ 99999999 ∧ (Meter.mk 0 false).value + 99999999 ≤ 99999999 ∧
    100000000 ≤ (Meter.mk 99999999 false).value + 1 := by decide

theorem witness_PresenceMovesTheSlot :
    ready.resetting = none ∧ (ready.slot 3).present = false ∧ ((toned ready).slot 0).present = true := by decide

/-- A slot that has just been inserted. -/
def newSlot : Slot := { present := true, state := .identifying }

theorem witness_IdentifyRecordsTheCartridge :
    let s := talking ready newSlot .identify
    s.resetting = none ∧ s.cart.transaction = some { slot := 1, work := .identify } ∧ (s.slot 1).state = .identifying ∧
    (9 : Serial) ∉ s.cart.rejectList ∧ (9 : Serial) ∈ [(9 : Serial)] ∧ 0 < s.settings.failLimit ∧
    (s.slot 1).retainedSerial = none ∧
    (talking ready { newSlot with retainedSerial := some 9, retainedFails := 6 } .identify).settings.failLimit ≤ 6 := by decide

theorem witness_IdentifyRecordsTheCartridge_mismatch :
    (talking ready newSlot .identify).settings.failLimit = 6 ∧ 0 + 1 < 6 ∧
    (talking ready { newSlot with retainedSerial := some 9, retainedFails := 5 } .identify).settings.failLimit ≤ 5 + 1 ∧
    (0 : Nat) < 4294967296 := by decide

theorem witness_ChallengesMoveTheFailCount :
    let s := talking (toned ready) { goodSlot with state := .suspect, fails := 2, recheck := some 3 } (.challenge 1 2)
    s.resetting = none ∧ s.cart.transaction = some { slot := 1, work := .challenge 1 2 } ∧ (s.slot 1).state = .suspect ∧
    (s.slot 1).serial = some 9 ∧ (s.slot 1).fails + 1 < s.settings.failLimit ∧ 2 ≤ (s.slot 1).fails ∧
    (talking (toned ready) goodSlot (.challenge 1 2)).slot 1 = goodSlot ∧ goodSlot.state = .genuine ∧ goodSlot.fails ≤ 1 ∧
    s.settings.failLimit ≤ { goodSlot with state := .suspect, fails := 5 }.fails + 1 := by decide

theorem witness_DebitAnswersAreChecked :
    let s := talking (toned ready) { goodSlot with pending := 40 } (.debit 40)
    s.resetting = none ∧ s.cart.transaction = some { slot := 1, work := .debit 40 } ∧ (s.slot 1).state = .genuine ∧
    860 = (s.slot 1).tagRemaining.getD 0 - 40 ∧ 859 ≠ (s.slot 1).tagRemaining.getD 0 - 40 ∧ 1 < s.settings.failLimit := by
  decide

/-- A disagreeing DEBIT answer at the fail limit rejects the slot with its snapshot. -/
theorem witness_DebitAnswersAreChecked_limit :
    let s := talking (toned ready) { goodSlot with state := .suspect, fails := 5, pending := 40 } (.debit 40)
    859 ≠ (s.slot 1).tagRemaining.getD 0 - 40 ∧ s.settings.failLimit ≤ (s.slot 1).fails + 1 ∧ (s.slot 1).serial = some 9 ∧
    (nextOf (exec (.cartDebitAnswer (lineMessage (be 4 859))) s)).map
      (fun u => ((u.slot 1).state, u.cart.rejectList, u.cart.snapshots.map fun x => (x.fails, x.view))) =
      some (.rejected, [9], [(6, 819)]) := by decide +kernel

/-- The rows of R101, in GENUINE and in SILENT: the remaining held, that less the amount, another value, and another value at
the fail limit. -/
theorem witness_DebitAnswersAreChecked_settling :
    let trusted := talking (toned ready) { goodSlot with pending := 40, unconfirmed := some 40, flush := some 0 } .identify
    let silent := talking (toned ready)
      { goodSlot with state := .silent, remembered := some .suspect, fails := 5, pending := 50, unconfirmed := some 40 } .identify
    let told (t : Nat) (s : State) := (nextOf (exec (.cartIdentifyAnswer (lineMessage (wordBytes 9 ++ be 4 1000 ++ be 4 t))) s)).map
      fun u => ((u.slot 1).state, (u.slot 1).tagRemaining, (u.slot 1).pending, (u.slot 1).unconfirmed)
    trusted.resetting = none ∧ trusted.cart.transaction = some { slot := 1, work := .identify } ∧
    (trusted.slot 1).state = .genuine ∧ (silent.slot 1).remembered = some .suspect ∧ (9 : Serial) ∉ silent.cart.rejectList ∧
    (silent.slot 1).tagRemaining = some 900 ∧ 1 < trusted.settings.failLimit ∧ silent.settings.failLimit ≤ (silent.slot 1).fails + 1 ∧
    [told 900 trusted, told 860 trusted, told 859 trusted, told 900 silent, told 860 silent, told 0 silent] =
      [some (.genuine, some 900, 40, none), some (.genuine, some 860, 0, none), some (.suspect, some 859, 40, none),
       some (.suspect, some 900, 50, none), some (.suspect, some 860, 10, none), some (.rejected, some 0, 0, none)] := by
  decide +kernel

theorem witness_UnansweredTransactionsRepeat :
    let s := talking (toned ready) { goodSlot with unanswered := 2 } (.debit 40)
    s.resetting = none ∧ s.cart.transaction = some { slot := 1, work := .debit 40 } ∧ (s.slot 1).state = .genuine ∧
    answerFields 4 [] = none ∧ 2 ≤ (s.slot 1).unanswered ∧ goodSlot.unanswered < 2 := by decide

theorem witness_UnansweredTransactionsRepeat_return :
    let s := talking (toned ready) { goodSlot with state := .silent, remembered := some .genuine, unanswered := 3 } .identify
    s.resetting = none ∧ s.cart.transaction = some { slot := 1, work := .identify } ∧ (s.slot 1).state = .silent ∧
    (s.slot 1).remembered = some .genuine ∧ (s.slot 1).serial = some 9 ∧ (9 : Serial) ∉ s.cart.rejectList ∧
    (s.slot 1).unconfirmed = none ∧ (s.slot 1).tagRemaining = some 900 := by decide

theorem witness_UnansweredTransactionsRepeat_silent :
    let s := talking (toned ready) { goodSlot with state := .silent, remembered := some .genuine, unanswered := 3 } .identify
    s.resetting = none ∧ s.cart.transaction = some { slot := 1, work := .identify } ∧ (s.slot 1).state = .silent ∧
    answerFields 16 [] = none := by decide

theorem witness_PostingsReachTheirSlots :
    goodSlot.state = .genuine ∧ ready.settings.verifyInterval ≤ { goodSlot with sinceVerify := 499 }.sinceVerify + 1 ∧
    (toned ready).cart.transaction = none ∧ goodSlot.sinceVerify + 1 < ready.settings.verifyInterval ∧
    (talking ready goodSlot (.challenge 1 2)).cart.transaction = some { slot := 1, work := .challenge 1 2 } ∧
    4096 ≤ (((toned ready).postSheet { sheet 3 with side1 := { page with k := 4096 } } none).slot 0).pending - 0 - 0 ∧
    (((toned ready).postSheet (sheet 3) none).slot 0).pending - 0 - 0 < 4096 ∧
    page.k ≠ 0 ∧ page.c = 0 := by decide

theorem witness_SlotTimersAskForWork :
    ((ready.setSlot 1 { goodSlot with state := .suspect, recheck := some 5000 }).slot 1).recheck = some 5000 ∧
    ((ready.setSlot 1 { goodSlot with state := .silent, recheck := some 5000 }).slot 1).state = .silent ∧
    0 < (ready.setSlot 1 { goodSlot with pending := 3, flush := some 2000 }).cart.uncovered 1 ∧
    (ready.setSlot 1 { goodSlot with pending := 0, flush := some 2000 }).cart.uncovered 1 = 0 := by decide

theorem witness_RejectRemoveForgives :
    admin.Serving ∧ admin.session = some { position := 1, idle := 400 } ∧ admin.isAdmin = true ∧
    (9 : Serial) ∉ admin.cart.rejectList ∧
    (9 : Serial) ∈ (admin.setCart { admin.cart with rejectList := [9] }).cart.rejectList := ⟨admin_serves, by decide⟩

theorem witness_RejectRemoveForgives_notAdmin : panel.Serving ∧ panel.isAdmin = false := ⟨panel_serves, by decide⟩

theorem witness_StreamBindStartsInHold :
    let s := withDocument (withJob panel { someJob 3 .scan with document := some 5 }) (someDocument .writing (some 3))
    s.Serving ∧ s.jobs.InOrder ∧ s.session = some { position := 2, idle := 400 } ∧ (s.job 3).map (·.kind) = some .scan ∧
    s.account 2 = some guest ∧ (s.stream 2).state = .idle ∧ guest.boxRight = true ∧ (s.document 5).isSome = true ∧
    s.tamper.latch = false ∧ 384 + 64 * 2 ≤ 512 ∧ s.pool.underReset = false ∧
    (∀ k ∈ fourIndices, (s.stream k).window = none) ∧ s.pool.wipe = [] ∧ boundWindows s.streams = 0 :=
  ⟨⟨rfl, rfl⟩, ⟨by decide, by decide⟩, by decide⟩

/-- The checks of R151 and R125, each met first. -/
theorem test_bind_refusals :
    let s := withDocument (withJob panel { someJob 3 .scan with document := some 5 }) (someDocument .writing (some 3))
    let body (k n first perHalf halves : Nat) : List Byte := be 1 k ++ be 2 n ++ be 2 first ++ be 1 perHalf ++ be 1 halves
    let beside := s.setStream 0 (someStream .encode .hold)
    let wiping (ranges : List BlockRange) := s.setPool { s.pool with wipe := ranges }
    [statusAfter (.streamBind (body 4 3 10 1 2)) s, statusAfter (.streamBind (body 2 4 10 1 2)) s,
     statusAfter (.streamBind (body 0 3 10 1 2)) beside, statusAfter (.streamBind bindBody) (withJob panel (someJob 3 .copy)),
     statusAfter (.streamBind bindBody) (s.setStore { docs := [], lastNumber := 5 }),
     statusAfter (.streamBind bindBody) (s.setTamper { latch := true, input := false }),
     statusAfter (.streamBind (body 2 3 385 64 2)) s, statusAfter (.streamBind bindBody) (s.setPool { s.pool with underReset := true }),
     statusAfter (.streamBind (body 2 3 9 1 2)) beside, statusAfter (.streamBind bindBody) (wiping [{ first := 11, count := 1 }]),
     statusAfter (.streamBind bindBody) (wiping (List.replicate 8 { first := 300, count := 1 })),
     statusAfter (.streamBind (body 2 3 12 1 2)) beside] =
    [.range, .range, .busy, .notPermitted, .noDocument, .tampered, .range, .busy, .overlap, .busy, .busy, .ok].map
      fun st => some (Status.code st) := by decide +kernel

theorem witness_FlowAndHoldMoveTheStream :
    let s := toned ((streaming .boxPrint (someStream .release .hold)).setSession (some { position := 2, idle := 4 }))
    s.Serving ∧ (s.stream 2).state = .hold ∧ (s.stream 2).kind = some .release ∧ (s.stream 2).job = some 3 ∧
    s.job 3 = some (boundJob .boxPrint) ∧ (boundJob .boxPrint).owner = 2 ∧ s.tamper.latch = false ∧
    (boundJob .boxPrint).state ≠ .stopping ∧ s.cart.mono = true ∧ s.documentColour (some 5) = false ∧
    (someStream .encode .hold).kind = some .encode ∧ (someStream .encode .flow).state = .flow := ⟨⟨rfl, rfl⟩, by decide⟩

theorem witness_FlowAndHoldMoveTheStream_refusals :
    let s := streaming .boxPrint (someStream .release .hold)
    let p := s.setSession (some { position := 2, idle := 4 })
    s.Serving ∧ p.Serving ∧ s.session = none ∧ (s.setTamper { latch := true, input := false }).tamper.latch = true ∧
    s.job 3 = some (boundJob .boxPrint) ∧ p.session = some { position := 2, idle := 4 } ∧ p.cart.mono = false ∧
    (p.setJobs { jobs := [(3, { boundJob .boxPrint with state := .stopping })], lastNumber := 3 }).job 3
      = some { boundJob .boxPrint with state := .stopping } ∧
    (withDocument (toned p) { someDocument .stored (some 3) with colour := true }).documentColour (some 5) = true ∧
    ((toned p).setCart { (toned p).cart with colour := false }).cart.colour = false ∧
    4 ≤ 4 ∧ 255 < 256 ∧ (s.stream 0).state ≠ .hold ∧ (s.stream 2).state ≠ .flow := ⟨⟨rfl, rfl⟩, ⟨rfl, rfl⟩, by decide⟩

theorem witness_ClearRestartsTheStream :
    let s := streaming .scan (someStream .encode .halt)
    s.Serving ∧ (s.stream 2).state = .halt ∧ (s.stream 2).half0.state = .empty ∧ (s.stream 2).half1.state = .empty ∧
    (s.stream 2).document = some 5 ∧ s.document 5 = some (someDocument .writing (some 3)) ∧
    (s.stream 2).kind = some .encode ∧ s.job 3 = some (boundJob .scan) ∧ (someStream .release .halt).kind = some .release :=
  ⟨⟨rfl, rfl⟩, by decide⟩

theorem witness_ClearRestartsTheStream_refusals :
    let s := (office.setStream 2 (someStream .release .halt)).setStream 3 { someStream .encode .halt with half0 := { state := .filled } }
    s.Serving ∧ s.document 5 = none ∧ (s.stream 2).state = .halt ∧ (s.stream 3).half0.state ≠ .empty ∧
    (s.stream 0).state ≠ .halt := ⟨⟨rfl, rfl⟩, by decide⟩

theorem witness_ReleaseUnbindsTheStream :
    let s := streaming .scan (someStream .encode .hold)
    s.Serving ∧ (s.stream 2).state ≠ .idle ∧ (s.stream 2).state ≠ .flow ∧ (s.stream 2).inHand = false ∧
    (s.stream 2).job = some 3 ∧ (s.stream 0).state = .idle := ⟨⟨rfl, rfl⟩, by decide⟩

theorem witness_ReleaseUnbindsTheStream_fills :
    let s := streaming .scan { someStream .encode .hold with half0 := { state := .sending } }
    let t := s.setPool { s.pool with
      fill := some (.half 2 false { first := 10, count := 1 } true), waiting := [(2, true), (3, false)] }
    (s.stream 2).inHand = true ∧ t.pool.fill = some (.half 2 false { first := 10, count := 1 } true) ∧
    t.pool.waiting.filter (fun w => w.1 != 2) = [(3, false)] ∧ (s.stream 1).job ≠ some 3 := by decide

/-- A band frame of 64 bytes for stream 2: last of page and of document, colour, size class 7. -/
def bandHeader : ScanHeader := { stream := 2, flags := 0x1E, sizeClass := 7, length := 64 }
def bandPayload : List Byte := List.replicate 64 7

def arriving (st : Stream) (w : Bool) : State :=
  let s := streaming .scan st
  s.setPorts { s.ports with scan := some { header := bandHeader, writing := w } }

theorem witness_GoodBandFramesAreStored :
    let s := streaming .scan (someStream .encode .flow)
    let t := arriving (someStream .encode .flow) true
    s.resetting = none ∧ s.ports.scan = none ∧ (2 : Fin 4).val = bandHeader.stream.toNat ∧
    (s.stream 2).kind = some .encode ∧ (s.stream 2).state = .flow ∧
    ((s.stream 2).half (s.stream 2).intake).state = .empty ∧ bandHeader.length.toNat ≤ (s.stream 2).halfSize ∧
    s.pool.mem.wf = true ∧ t.ports.scan = some { header := bandHeader, writing := true } ∧
    scanCheckGood bandHeader (.complete bandPayload (crc (bandHeader.bytes ++ bandPayload))) = true ∧
    (t.stream 2).lastBand = false ∧ flagSeq bandHeader.flags = (t.stream 2).seqBit ∧ (t.stream 2).bands < 65535 ∧
    (t.stream 2).halfAddress false + (t.stream 2).halfSize ≤ poolBytes ∧
    (∀ i ∈ fourIndices, i.val ≠ { bandHeader with stream := 4 }.stream.toNat) := by decide +kernel

theorem witness_OtherBandFramesLeaveNothing :
    let s := arriving (someStream .encode .flow) false
    s.resetting = none ∧ s.ports.scan = some { header := bandHeader, writing := false } ∧
    (2 : Fin 4).val = bandHeader.stream.toNat ∧ (s.stream 2).kind = some .encode ∧ (s.stream 2).state = .flow ∧
    (s.stream 2).lastBand = false ∧ scanCheckGood bandHeader .stopBitError = false ∧ (s.stream 2).checkErrors < 2 ∧
    2 ≤ { someStream .encode .flow with checkErrors := 2 }.checkErrors ∧
    flagSeq bandHeader.flags = (s.stream 2).seqBit ∧
    flagSeq bandHeader.flags ≠ { someStream .encode .flow with seqBit := true }.seqBit ∧
    (someStream .encode .done).state = .done ∧
    { someStream .encode .flow with window := none }.halfSize < bandHeader.length.toNat := by decide

/-- A frame that names the RELEASE stream of a BOX_PRINT job, and rows at their boundaries. -/
theorem witness_OtherBandFramesLeaveNothing_rows :
    let s := streaming .boxPrint (someStream .release .hold)
    let t := s.setPorts { s.ports with scan := some { header := bandHeader, writing := false } }
    ((nextOf (exec .scanGapExpiry t)).map fun u => (u.stream 2).refused) = some 1 ∧
    (someStream .release .flow).kind ≠ some .encode ∧ bandHeader.length.toNat ≤ (someStream .release .flow).halfSize ∧
    { someStream .encode .flow with lastBand := true }.lastBand = true ∧
    (someStream .encode .flow).halfSize < { bandHeader with length := 65 }.length.toNat ∧
    65535 ≤ { someStream .encode .flow with bands := 65535 }.bands ∧
    (arriving (someStream .encode .flow) true).ports.scan = some { header := bandHeader, writing := true } ∧
    (ready.stream 2).state = .idle ∧ 4 ≤ { bandHeader with stream := 4 }.stream.toNat := by decide +kernel

/-- An image frame of band 0 of document 5, 20 bytes in two units. -/
def imageHeader : ImgHeader := { document := 5, band := 0, page := 0, flags := 0x02, sizeClass := 1, length := 20 }
def imageBytes : List Byte := List.replicate 32 9

def imageArriving (st : Stream) (w : Bool) : State :=
  let s := streaming .boxPrint st
  s.setPorts { s.ports with img := some { header := imageHeader, stream := some 2, writing := w } }

theorem witness_GoodImageFramesAreStored :
    let s := imageArriving (someStream .release .flow) true
    s.resetting = none ∧ s.pool.mem.wf = true ∧ (s.stream 2).kind = some .release ∧
    (s.stream 2).document = some imageHeader.document.toNat ∧ (s.stream 2).state = .flow ∧
    imageHeader.length.toNat ≤ (s.stream 2).halfSize ∧ imageHeader.band.toNat = (s.stream 2).nextBand ∧
    ((s.stream 2).half false).state = .empty ∧ (∀ k ∈ [(0 : Fin 4), 1], (s.stream k).kind ≠ some .release) ∧
    s.ports.img = some { header := imageHeader, stream := some 2, writing := true } ∧ (s.stream 2).lastBand = false ∧
    imgCheckGood imageHeader (.complete imageBytes 3 (crc (imageHeader.bytes ++ imageBytes ++ wordBytes 3))) = true ∧
    (s.document 5).isSome = true ∧ (streaming .boxPrint (someStream .release .flow)).ports.img = none := by decide +kernel

theorem witness_OtherImageFramesLeaveNothing :
    let s := imageArriving { someStream .release .hold with nextBand := 1 } false
    s.resetting = none ∧ s.ports.img = some { header := imageHeader, stream := some 2, writing := false } ∧
    (s.stream 2).kind = some .release ∧ (s.stream 2).document = some imageHeader.document.toNat ∧ (s.stream 2).state = .hold ∧
    imgCheckGood imageHeader .stopBitError = false ∧ imageHeader.band.toNat + 1 = (s.stream 2).nextBand ∧
    imageHeader.length.toNat ≤ (s.stream 2).halfSize ∧ imageHeader.band.toNat + 1 ≠ 5 ∧ imageHeader.band.toNat ≠ 5 ∧
    imgCheckGood imageHeader (.complete imageBytes 3 (crc (imageHeader.bytes ++ imageBytes ++ wordBytes 3))) = true := by decide +kernel

theorem witness_OtherImageFramesLeaveNothing_rows :
    let s := imageArriving (someStream .release .hold) true
    (s.stream 2).state = .hold ∧ imageHeader.band.toNat = (s.stream 2).nextBand ∧
    (s.stream 2).halfSize < { imageHeader with length := 65 }.length.toNat ∧
    (imageArriving (someStream .encode .hold) false).ports.img.map (·.stream) = some (some 2) ∧
    (someStream .encode .hold).kind ≠ some .release ∧ (imageArriving (someStream .release .done) false).ports.img.isSome = true := by
  decide +kernel

/-- The header of a band of 20 bytes, last of its page and of its document. -/
def heldBand : BandHeader := { flags := 0x0C, sizeClass := 1, length := 20, band := 2, page := 1 }

/-- Stream 2 with half 1 in a given state, its cipher work in progress. -/
def ciphering (k : JobKind) (sk : StreamKind) (st : StreamState) (h : HalfState) : State :=
  let s := streaming k ((someStream sk st).setHalf true { state := h, header := some heldBand })
  s.setCipher { s.cipher with work := some { stream := 2, half := true } }

theorem witness_CipherEncodesAndReleases :
    let s := ciphering .scan .encode .flow .cipher
    let r := ciphering .boxPrint .release .hold .cipher
    s.resetting = none ∧ s.pool.mem.wf = true ∧ s.cipher.work = some { stream := 2, half := true } ∧
    ((s.stream 2).half true).header = some heldBand ∧ (s.stream 2).document = some 5 ∧
    s.document 5 = some (someDocument .writing (some 3)) ∧ (heldBand.length + 15) / 16 * 16 ≤ (s.stream 2).halfSize ∧
    (s.stream 2).halfAddress true + (s.stream 2).halfSize ≤ poolBytes ∧ (s.stream 2).state ≠ .halt ∧
    (s.stream 2).kind = some .encode ∧ (r.stream 2).kind = some .release ∧ (r.stream 2).holdOrFlow = true ∧
    ((r.stream 2).half true).tag = none ∧ ((ciphering .scan .encode .halt .cipher).stream 2).state = .halt := by decide

/-- The tag of a RELEASE half agrees with its bytes. -/
theorem witness_CipherTagAgrees :
    let tag := bandTag 77 5 heldBand (List.replicate 32 0)
    (((someStream .release .flow).setHalf true { state := .cipher, header := some heldBand, tag := some tag }).half true).tag
      = some (bandTag 77 5 heldBand (Memory.readBytes [] 704 32)) := rfl

theorem sending_bindings : (ciphering .scan .encode .flow .sending).BindingsMatch where
  inOrder := ⟨by decide, by decide⟩
  jobs := by
    intro n j i h e
    have hn : n = 3 := by
      have := Table.find_mem h
      simp only [ciphering, streaming, withJob, withDocument, boundJob, someJob, State.setJobs, State.setStore, State.setCipher,
        List.mem_singleton, Prod.mk.injEq] at this
      exact this.1
    subst hn
    cases h
    cases e
    decide
  streams := by
    intro i n h
    match i with
    | 0 => cases h
    | 1 => cases h
    | 2 => cases h; exact ⟨boundJob .scan, rfl, rfl⟩
    | 3 => cases h
  bound := by decide

/-- The session ends beside an ENCODE stream of its own account, which is left as it is. -/
theorem witness_SessionEndStopsReleases_others :
    let s := (ciphering .scan .encode .flow .sending).setSession (some { position := 2, idle := 0 })
    s.resetting = none ∧ s.session = some { position := 2, idle := 0 } ∧ s.jobs.InOrder ∧ s.BindingsMatch ∧
    (s.stream 2).kind ≠ some .release ∧ (nextOf (exec (.logout []) s)).map (fun u => (u.stream 2).state) = some .flow :=
  ⟨rfl, rfl, sending_bindings.inOrder,
   ⟨sending_bindings.inOrder, sending_bindings.jobs, sending_bindings.streams, sending_bindings.bound⟩, by decide, by decide⟩

theorem witness_ImageSendingsCountBandsAndPages :
    let s := ciphering .scan .encode .flow .sending
    s.resetting = none ∧ s.BindingsMatch ∧ s.sendingOn .encode = some (2, true) ∧
    ((s.stream 2).half true).header = some heldBand ∧ (s.stream 2).document = some 5 ∧ (s.stream 2).job = some 3 ∧
    s.job 3 = some (boundJob .scan) ∧ s.account 2 = some guest ∧ (s.stream 2).HalfInPool true ∧
    flagLastOfPage heldBand.flags = true ∧ (boundJob .scan).scanPages < 8000000 ∧
    8000000 ≤ { boundJob .scan with scanPages := 8000000 }.scanPages :=
  ⟨rfl, sending_bindings, rfl, rfl, rfl, rfl, rfl, rfl, by unfold Stream.HalfInPool; decide, by decide⟩

theorem witness_VideoSendingsEndTheStream :
    let s := ciphering .boxPrint .release .hold .sending
    s.resetting = none ∧ s.sendingOn .release = some (2, true) ∧ ((s.stream 2).half true).header = some heldBand ∧
    (s.stream 2).halfAddress true + (s.stream 2).halfSize ≤ poolBytes ∧ s.isLastBand (some 5) heldBand.band = true := by decide

/-- In HALT too the last band of a page raises pages and page number (R167; log 15). -/
theorem test_page_number_rises_in_halt :
    let s := ciphering .boxPrint .release .halt .sending
    let t := s.changeStream 2 fun st => st.setHalf true { st.half true with header := some { heldBand with flags := 0x04 } }
    (nextOf (exec .videoSendComplete t)).map (fun u => ((u.stream 2).pages, (u.stream 2).page)) = some (1, 1) := by decide +kernel

theorem witness_IdleExpiryHaltsTheStream :
    let s := streaming .scan { someStream .encode .flow with idle := some 3000, half0 := { state := .filled } }
    s.resetting = none ∧ (s.stream 2).idle = some 3000 ∧ (s.stream 2).holdOrFlow = true ∧ s.ports.writingInto 2 = none ∧
    ((s.stream 2).half false).state = .filled ∧ ((s.stream 2).half true).state ≠ .filled := by decide

theorem witness_FillsZeroTheirBlocks :
    (∀ i ∈ fourIndices, (State.reset.stream i).window = none) ∧ State.reset.pool.wipe = [] ∧ ready.resetting = none ∧ State.reset.pool.fill = some .full ∧
    (ready.setPool { ready.pool with fill := some (.half 2 true { first := 511, count := 1 } true) }).pool.fill
      = some (.half 2 true { first := 511, count := 1 } true) ∧
    (ready.setPool { ready.pool with fill := some .range, wipe := [{ first := 0, count := 128 }] }).pool.wipe
      = { first := 0, count := 128 } :: [] := by decide

theorem witness_DocumentEraseForgetsTheDocument :
    (withDocument panel (someDocument .stored none)).Serving ∧
    (withDocument panel (someDocument .stored none)).session = some { position := 2, idle := 400 } ∧
    (withDocument panel (someDocument .stored none)).document 5 = some (someDocument .stored none) ∧
    (withDocument panel (someDocument .writing none)).document 5 = some (someDocument .writing none) ∧
    panel.isAdmin = false ∧ { someDocument .stored none with owner := 9 }.owner ≠ 2 := ⟨⟨rfl, rfl⟩, by decide⟩

theorem witness_DocumentEraseForgetsTheDocument_others :
    office.Serving ∧ office.session = none ∧ panel.Serving ∧ panel.document 5 = none ∧ admin.isAdmin = true ∧
    (someDocument .stored (some 3)).job.isSome = true ∧ 65535 < 65536 := ⟨office_serves, by decide, panel_serves, by decide⟩

theorem witness_TamperErasesAndHalts :
    let s := streaming .scan (someStream .encode .done)
    s.resetting = none ∧ s.tamper.input = false ∧ s.jobs.InOrder ∧ (s.stream 2).state = .done ∧
    (s.job 3).map (·.state) = some .opened ∧ admin.Serving ∧ admin.isAdmin = true ∧
    (admin.setTamper { latch := true, input := true }).tamper.input = true :=
  ⟨rfl, rfl, ⟨by decide, by decide⟩, by decide, by decide, admin_serves, by decide, rfl⟩

theorem witness_TamperErasesAndHalts_clear :
    panel.Serving ∧ panel.isAdmin = false ∧ admin.tamper.input = false ∧
    (streaming .scan (someStream .encode .done)).stream 0 = {} ∧ (({} : Stream).holdOrFlow = false) := ⟨panel_serves, by decide⟩

theorem witness_SettingsAreClamped :
    admin.Serving ∧ admin.session = some { position := 1, idle := 400 } ∧ admin.isAdmin = true ∧ 4294967295 < 4294967296 ∧
    admin.settings.InRange := ⟨admin_serves, rfl, by decide, by decide, by unfold Settings.InRange; decide⟩

theorem witness_SettingsAreClamped_documents :
    let s := withDocument (withJob admin (someJob 3 .copy)) (someDocument .stored none)
    (9 : Fin 13) ≠ 10 ∧ s.document 5 = some (someDocument .stored none) ∧ (s.job 3).map (·.document) = some none := by decide

theorem witness_FactoryClearRestoresDefaults :
    admin.Serving ∧ admin.session = some { position := 1, idle := 400 } ∧ admin.isAdmin = true ∧ admin.jobs.jobs = [] ∧
    (withJob admin (someJob 3 .copy)).jobs.jobs ≠ [] ∧ (∀ i ∈ fourIndices, (admin.slot i).meetsLimit 6 = false) :=
  ⟨admin_serves, by decide⟩

theorem witness_ResetsKeepRetainedMemory :
    ready.resetting = none ∧ inReset.resetting.isSome = true ∧
    inReset.resetting = some { cause := .supply, writingErased := 0, tamperEvents := 0, tamperErased := 0 } := by decide

theorem witness_ResetsKeepRetainedMemory_tamper :
    inReset.tamper.input = false ∧ (inReset.setTamper { latch := true, input := true }).tamper.input = true ∧
    ({ cause := .supply, writingErased := 0, tamperEvents := 1, tamperErased := 0 } : ResetPhase).tamperEvents ≠ 0 ∧
    ((nextOf (exec .tamperEvent inReset)).bind (·.resetting)).map (·.tamperEvents) = some 1 := by decide

/-- The resting part meets the invariants. -/
theorem witness_StepsKeepRanges : ready.InRange where
  memory := rfl
  queue := by unfold State.QueueInRange; decide
  settings := by unfold Settings.InRange; decide
  notices := by unfold Link.NoticesInOrder; decide
  points := by unfold JobTable.PointsBalance; decide
  wipe := by unfold State.WipeReserve; decide
  lists := by unfold CartUnit.ListsInRange; decide
  colour := by unfold CartUnit.ColourNeedsMono; decide

theorem witness_StepsKeepMoneySound : (withJob office (someJob 3 .copy)).MoneySound where
  positions := by decide
  jobs := ⟨by decide, by decide⟩
  owners := by decide
  balances := by decide
  holds := by unfold State.HoldsCovered; decide

theorem witness_StepsKeepBindingsMatched : (ciphering .scan .encode .flow .sending).BindingsMatch := sending_bindings

theorem witness_StepsEndSettled : ready.SettledOutsideReset := fun _ =>
  ⟨{ levels := by decide, moved := by decide, mono := by decide, colour := by decide, cipher := Or.inr (by decide), fill := Or.inr ⟨rfl, rfl⟩,
     line := Or.inr (by decide), take := Or.inl rfl }, Or.inr ⟨rfl, rfl⟩⟩

end Sys2Proof.Tests.Slice0
end

section
/-! PROOFS. LOGIN (R14): each check and outcome once, and the statement of its order assembled from them (O10). -/

namespace Sys2Proof.Machine

/-! ## Numbers and PIN digits of a body -/

@[simp] theorem length_be (n v : Nat) : (be n v).length = n := by
  induction n with
  | zero => rfl
  | succ n ih => simp [be, ih]

/-- A digit byte above 9 within the length is an illegal enumeration (R14). -/
theorem pinDigits_eq_none {len d : Byte} {digits : List Byte} (used : d ∈ digits.take len.toNat) (big : 9 < d.toNat) :
    pinDigits len digits = none := by
  have bad : ¬ (digits.take len.toNat).all (fun d => decide (d.toNat ≤ 9)) = true := fun all =>
    absurd (of_decide_eq_true (List.all_eq_true.mp all d used)) (Nat.not_le.mpr big)
  exact if_neg bad

/-- A LOGIN body of the right length: its user number, its PIN length byte and its digits. -/
theorem parseLogin_fields (user : Nat) (len : Byte) {digits : List Byte} (eight : digits.length = 8) :
    parseLogin (be 4 user ++ len :: digits) =
      if len.toNat ≤ 8 then (pinDigits len digits).map fun pin => { user := num (be 4 user), pin := pin } else none := by
  have whole : (be 4 user ++ len :: digits).length = 13 := by simp [eight]
  have front : (be 4 user ++ len :: digits).take 4 = be 4 user := List.take_left' (length_be 4 user)
  have back : (be 4 user ++ len :: digits).drop 4 = len :: digits := List.drop_left' (length_be 4 user)
  rw [parseLogin, if_pos whole, front, back]
  dsimp only
  cases pinDigits len digits <;> rfl

/-- A PIN length above 8, or a digit above 9 within it, spells no LOGIN. -/
theorem parseLogin_badPinField (user : Nat) {len : Byte} {digits : List Byte} (eight : digits.length = 8)
    (bad : 8 < len.toNat ∨ ∃ d ∈ digits.take len.toNat, 9 < d.toNat) :
    parseLogin (be 4 user ++ len :: digits) = none := by
  rw [parseLogin_fields user len eight]
  rcases bad with long | ⟨d, used, big⟩
  · exact if_neg (Nat.not_le.mpr long)
  · rw [pinDigits_eq_none used big, Option.map_none, ite_self]

/-! ## The account's side: the range of its number, its PIN, its failure count -/

theorem userInRange_iff (user : Nat) : userInRange user = true ↔ 1 ≤ user ∧ user ≤ 99999999 := decide_eq_true_iff

namespace Account

variable {a : Account}

theorem pinPasses_iff (sent : List Byte) : a.pinPasses sent = true ↔ a.pin = none ∨ a.pin = some sent := by
  unfold pinPasses
  cases a.pin with
  | none => simp
  | some pin =>
    simp only [beq_iff_eq, reduceCtorEq, false_or, Option.some.injEq]
    exact eq_comm

theorem pinFailed_below (few : a.failures + 1 < 5) : a.pinFailed = { a with failures := a.failures + 1 } := if_pos few

/-- The fifth failure locks the account. -/
theorem pinFailed_fifth (many : 5 ≤ a.failures + 1) : a.pinFailed = { a with failures := 5, state := .locked } :=
  if_neg (Nat.not_lt.mpr many)

end Account

variable {s t : State} {b : List Byte} {r : LoginRequest} {p : Nat} {a : Account}

/-! ## LOGIN on a present account, steps 3 to 5 -/

namespace State

theorem loginOn_suspended (st : a.state = .suspended) (pin : List Byte) : s.loginOn p a pin = refuse s .suspended := by
  simp only [loginOn, st]

theorem loginOn_locked (st : a.state = .locked) (pin : List Byte) : s.loginOn p a pin = refuse s .locked := by
  simp only [loginOn, st]

theorem loginOn_accepts (st : a.state = .active) {pin : List Byte} (same : a.pin = none ∨ a.pin = some pin) :
    s.loginOn p a pin = s.acceptLogin p a := by
  simp only [loginOn, st, (Account.pinPasses_iff pin).mpr same, if_true]

theorem loginOn_fails (st : a.state = .active) {pin sent : List Byte} (has : a.pin = some pin) (wrong : sent ≠ pin) :
    s.loginOn p a sent = s.failLogin p a := by
  have fails : ¬ a.pinPasses sent = true := by
    rw [Account.pinPasses_iff, has]
    rintro (absent | same)
    · cases absent
    · exact wrong (Option.some.inj same).symm
  simp only [loginOn, st, if_neg fails]

theorem failLogin_below (few : a.failures + 1 < 5) :
    s.failLogin p a = refuse (s.changeAccount p Account.pinFailed) .badPin :=
  congrArg (refuse _) (if_pos few)

theorem failLogin_fifth (many : 5 ≤ a.failures + 1) :
    s.failLogin p a = refuse (s.changeAccount p Account.pinFailed) .locked :=
  congrArg (refuse _) (if_neg (Nat.not_lt.mpr many))

end State

/-! ## LOGIN, steps 1 and 2, and its frame -/

theorem serveLogin_malformed (bad : parseLogin b = none) : serveLogin b s = refuse s .malformed := by
  rw [serveLogin, bad, withParsed_none]

theorem serveLogin_sessionBusy (spells : parseLogin b = some r) (busy : s.session.isSome = true) :
    serveLogin b s = refuse s .sessionBusy := by
  rw [serveLogin, spells, withParsed_some, if_pos busy]

theorem serveLogin_noAccount (spells : parseLogin b = some r) (closed : s.session = none)
    (no : r.user = 0 ∨ 99999999 < r.user ∨ s.findUser r.user = none) : serveLogin b s = refuse s .noAccount := by
  rw [serveLogin, spells, withParsed_some, closed]
  by_cases inRange : userInRange r.user = true
  · have held : s.findUser r.user = none := by
      have := (userInRange_iff r.user).mp inRange
      rcases no with zero | above | held
      · omega
      · omega
      · exact held
    simp [inRange, held]
  · simp [inRange]

/-- Past steps 1 and 2, the account found decides. -/
theorem serveLogin_found (spells : parseLogin b = some r) (closed : s.session = none) (low : 1 ≤ r.user)
    (high : r.user ≤ 99999999) (found : s.findUser r.user = some (p, a)) : serveLogin b s = s.loginOn p a r.pin := by
  have inRange : userInRange r.user = true := (userInRange_iff r.user).mpr ⟨low, high⟩
  rw [serveLogin, spells, withParsed_some, closed]
  simp [inRange, found]

theorem exec_login_ok (h : s.Serving) {fields : List Byte} (e : serveLogin b s = okWith t fields) :
    exec (.login b) s = t.answersOk 129 fields := requestFrame_ok h e

theorem exec_login_no (h : s.Serving) {status : Status} (e : serveLogin b s = refuse t status) :
    exec (.login b) s = t.answersNo 129 status := requestFrame_no h e

/-- Settles O10: the checks of LOGIN one by one, each through the case of serveLogin or loginOn that it is. -/
theorem loginChecksThePin : Obligations.LoginChecksThePin := by
  refine ⟨fun s b r p a serving spells => ⟨fun busy => ?busy, fun closed no => ?noAccount,
      fun closed low high found => ⟨fun st => ?suspended, fun st => ?locked⟩,
      fun user len digits eight bad => ?malformed, fun closed low high found st same => ?accepted⟩,
    fun s b r p a pin serving spells closed low high found st has wrong => ?failed⟩
  case busy => exact exec_login_no serving (serveLogin_sessionBusy spells busy)
  case noAccount => exact exec_login_no serving (serveLogin_noAccount spells closed no)
  case suspended =>
    exact exec_login_no serving
      ((serveLogin_found spells closed low high found).trans (State.loginOn_suspended st r.pin))
  case locked =>
    exact exec_login_no serving
      ((serveLogin_found spells closed low high found).trans (State.loginOn_locked st r.pin))
  case malformed => exact exec_login_no serving (serveLogin_malformed (parseLogin_badPinField user eight bad))
  case accepted =>
    exact exec_login_ok serving
      ((serveLogin_found spells closed low high found).trans (State.loginOn_accepts st same))
  case failed =>
    have fails : serveLogin b s = s.failLogin p a :=
      (serveLogin_found spells closed low high found).trans (State.loginOn_fails st has wrong)
    refine ⟨fun few => ?_, fun many => ?_⟩
    · have answer : exec (.login b) s = (s.changeAccount p Account.pinFailed).answersNo 129 .badPin :=
        exec_login_no serving (fails.trans (State.failLogin_below few))
      exact ⟨answer, Account.pinFailed_below few⟩
    · have answer : exec (.login b) s = (s.changeAccount p Account.pinFailed).answersNo 129 .locked :=
        exec_login_no serving (fails.trans (State.failLogin_fifth many))
      exact ⟨answer, Account.pinFailed_fifth many⟩

end Sys2Proof.Machine
end

section
/-! PROOFS. The charge of one side (R26 to R28): what each stage computes, and the statement of the stages assembled from
them (O17). -/

namespace Sys2Proof.Machine

/-! ## Plane coverage (R26) -/

theorem coverage_le (area dots : Nat) : coverage area dots ≤ 1000 := Nat.min_le_left ..

/-- A plane without dots has coverage 0. -/
@[simp] theorem coverage_zero (area : Nat) : coverage area 0 = 0 := by simp [coverage]

/-- Below the clamp the coverage is the quotient with its fraction discarded. -/
theorem coverage_floor {area dots : Nat} (pos : 1 ≤ area) (within : dots * 1000 / area ≤ 1000) :
    coverage area dots * area ≤ dots * 1000 ∧ dots * 1000 < (coverage area dots + 1) * area := by
  have quotient : coverage area dots = dots * 1000 / area := Nat.min_eq_right within
  rw [quotient]
  exact ⟨Nat.div_mul_le_self .., (Nat.div_lt_iff_lt_mul pos).mp (Nat.lt_succ_self _)⟩

/-- At the clamp the dots fill the area. -/
theorem coverage_clamp {area dots : Nat} (pos : 1 ≤ area) (above : 1000 ≤ dots * 1000 / area) :
    coverage area dots = 1000 ∧ 1000 * area ≤ dots * 1000 :=
  ⟨Nat.min_eq_left above, (Nat.le_div_iff_mul_le pos).mp above⟩

theorem coverage_cases {area : Nat} (dots : Nat) (pos : 1 ≤ area) :
    (coverage area dots * area ≤ dots * 1000 ∧ dots * 1000 < (coverage area dots + 1) * area ∧ coverage area dots ≤ 1000) ∨
    (coverage area dots = 1000 ∧ 1000 * area ≤ dots * 1000) := by
  rcases Nat.le_total (dots * 1000 / area) 1000 with within | above
  · obtain ⟨low, high⟩ := coverage_floor pos within
    exact Or.inl ⟨low, high, coverage_le area dots⟩
  · exact Or.inr (coverage_clamp pos above)

/-! ## Colour class (R27) -/

theorem Dots.colourClass_eq_mono_iff (d : Dots) : d.colourClass = .mono ↔ d.c = 0 ∧ d.m = 0 ∧ d.y = 0 := by
  by_cases blank : d.c = 0 ∧ d.m = 0 ∧ d.y = 0 <;> simp [Dots.colourClass, blank]

theorem Dots.colourClass_eq_colour_iff (d : Dots) : d.colourClass = .colour ↔ d.c ≠ 0 ∨ d.m ≠ 0 ∨ d.y ≠ 0 := by
  have other : d.colourClass = .colour ↔ ¬ d.colourClass = .mono := by cases d.colourClass <;> decide
  rw [other, d.colourClass_eq_mono_iff]
  omega

/-! ## Excess steps (R28) -/

theorem excessSteps_floor {free total : Nat} :
    excessSteps free total * 10 ≤ total - free ∧ total - free < (excessSteps free total + 1) * 10 := by
  rw [excessSteps]
  omega

theorem excessSteps_eq_zero {free total : Nat} (covered : total ≤ free) : excessSteps free total = 0 := by
  rw [excessSteps, Nat.sub_eq_zero_of_le covered]

theorem excessSteps_le {free total : Nat} (bound : total ≤ 4000) : excessSteps free total ≤ 400 := by
  rw [excessSteps]
  omega

/-! ## The result of a side -/

section
variable (r : Rates) (free size : Nat) (p : SidePosition) (d : Dots)

theorem sideCharge_total_le : (sideCharge r free size p d).total ≤ 4000 := by
  have k := coverage_le (r.areaOf size) d.k
  have c := coverage_le (r.areaOf size) d.c
  have m := coverage_le (r.areaOf size) d.m
  have y := coverage_le (r.areaOf size) d.y
  dsimp only [sideCharge]
  omega

/-- A MONO side has only its K coverage (R28). -/
theorem sideCharge_total_of_mono (mono : d.colourClass = .mono) :
    (sideCharge r free size p d).total = coverage (r.areaOf size) d.k := by
  obtain ⟨c, m, y⟩ := d.colourClass_eq_mono_iff.mp mono
  simp [sideCharge, c, m, y]

/-- The side charge is b + u × E, clamped at the ceiling (R28). -/
theorem sideCharge_charge :
    let c := sideCharge r free size p d
    c.charge = min 65535 (c.base + c.step * c.excess) := rfl

/-- The ceiling mark says that the clamp applied (R28). -/
theorem sideCharge_ceiling :
    let c := sideCharge r free size p d
    c.ceiling = decide (65535 < c.base + c.step * c.excess) := rfl

end

/-- Settles O17: one stage of R26 to R28 after the other, each by its own lemma. -/
theorem sideChargeFollowsTheStages : Obligations.SideChargeFollowsTheStages := by
  intro r free size p d pos c covers
  have total : c.total ≤ 4000 := sideCharge_total_le r free size p d
  refine ⟨coverage_cases d.k pos, coverage_cases d.c pos, coverage_cases d.m pos, coverage_cases d.y pos,
    d.colourClass_eq_colour_iff, d.colourClass_eq_mono_iff, rfl, total, fun mono => ?mono,
    fun _ => excessSteps_floor, excessSteps_eq_zero, excessSteps_le total, rfl, rfl, rfl, fun within => ?within, fun above => ?above⟩
  case mono => exact (sideCharge_total_of_mono r free size p d mono).trans_le (coverage_le ..)
  case within =>
    exact ⟨(sideCharge_charge r free size p d).trans (Nat.min_eq_right within),
      (sideCharge_ceiling r free size p d).trans (decide_eq_false (Nat.not_lt.mpr within))⟩
  case above =>
    exact ⟨(sideCharge_charge r free size p d).trans (Nat.min_eq_left above.le),
      (sideCharge_ceiling r free size p d).trans (decide_eq_true above)⟩

end Sys2Proof.Machine
end

section
/-! PROOFS. The engine line and the sheet queue: what a line's bytes become and where the entry goes (R61 to R65, O25), and the
take of a DAMAGED entry (R67, O26). -/

namespace Sys2Proof.Machine

/-! ## The entry a record's bytes become (R60, R61) -/

section
variable {line : List LineByte}

theorem arrivalEntry_of_broken (broken : receiveRecord line = .broken) : arrivalEntry line = some .damaged := by
  rw [arrivalEntry, broken]

theorem arrivalEntry_of_badCheck {covered : List Byte} (bad : receiveRecord line = .complete covered false) :
    arrivalEntry line = some .damaged := by
  rw [arrivalEntry, bad]
  rfl

theorem gapEntry_of_partly (inside : receiveRecord line = .partly) : gapEntry line = some .damaged := by
  rw [gapEntry, inside]

end

/-! ## The queue's two meters -/

theorem Meters.addAll_lostRecords (m : Meters) (n : Nat) :
    m.addAll { lostRecords := n } = { m with lostRecords := m.lostRecords.add n } := by
  simp [Meters.addAll]

theorem Meters.addAll_damagedRecords (m : Meters) (n : Nat) :
    m.addAll { damagedRecords := n } = { m with damagedRecords := m.damagedRecords.add n } := by
  simp [Meters.addAll]

/-! ## Stored or lost (R63 to R65) -/

section
variable {s : State} {e : QueueEntry}

theorem recordArrived_of_room (room : s.queue.entries.length < 32) : s.recordArrived e = s.setQueue (s.queue.store e) :=
  if_pos room

theorem recordArrived_of_full (full : 32 ≤ s.queue.entries.length) : s.recordArrived e = s.loseRecord :=
  if_neg (Nat.not_lt.mpr full)

/-- A loss counts on LOST RECORDS and posts QUEUE_OVERRUN with the meter after the count (R64). -/
theorem loseRecord_eq (s : State) :
    s.loseRecord = (s.setMeters { s.meters with lostRecords := s.meters.lostRecords.add 1 }).setLink
      (s.link.post (.queueOverrun 1 (s.meters.lostRecords.add 1))) := by
  rw [State.loseRecord, State.addMeters, Meters.addAll_lostRecords]
  rfl

/-- The repeated posting adds to the count and keeps the newer meter (R64). -/
theorem Notice.merge_queueOverrun (n k : Nat) (m m' : Meter) :
    Notice.merge (.queueOverrun n m) (.queueOverrun k m') = .queueOverrun (min 65535 (n + k)) m' := rfl

variable {line : List LineByte}

theorem exec_engineRecordArrival (outside : s.resetting = none) (ends : arrivalEntry line = some e) :
    exec (.engineRecordArrival line) s = .next (s.recordArrived e).finish := by
  show Host.Outcome.next (outsideReset s fun s => s.recordMaybe (arrivalEntry line)) = _
  rw [outsideReset_out outside, ends, State.recordMaybe]

theorem exec_engineGapExpiry (outside : s.resetting = none) (inside : receiveRecord line = .partly) :
    exec (.engineGapExpiry line) s = .next (s.recordArrived .damaged).finish := by
  show Host.Outcome.next (outsideReset s fun s => s.recordMaybe (gapEntry line)) = _
  rw [outsideReset_out outside, gapEntry_of_partly inside, State.recordMaybe]

variable {i : Instr}

/-- A command that ends a record's arrival stores it while the queue has room (R63, R65). -/
theorem exec_stores (arrives : exec i s = .next (s.recordArrived e).finish) (room : s.queue.entries.length < 32) :
    exec i s = .next (s.setQueue (s.queue.store e)).finish := by
  rw [arrives, recordArrived_of_room room]

/-- A command that ends a record's arrival loses it when the queue is full (R64). -/
theorem exec_loses (arrives : exec i s = .next (s.recordArrived e).finish) (full : 32 ≤ s.queue.entries.length) :
    ∃ u : State, exec i s = .next u.finish ∧ u.queue = s.queue ∧
      u.meters = { s.meters with lostRecords := s.meters.lostRecords.add 1 } ∧
      u.link = s.link.post (.queueOverrun 1 u.meters.lostRecords) ∧ u.accounts = s.accounts ∧ u.jobs = s.jobs ∧
      u.cart = s.cart ∧ u.house = s.house := by
  refine ⟨s.loseRecord, ?_, ?_⟩
  · rw [arrives, recordArrived_of_full full]
  · simp [loseRecord_eq]

end

/-- Settles O25: a record's end and a gap each come down to one arrival, which the room in the queue stores or loses. -/
theorem arrivalsJoinTheTailOrAreLost : Obligations.ArrivalsJoinTheTailOrAreLost := by
  intro s line e outside
  refine ⟨fun ends room => ?stored, fun inside damaged room => ?gapStored, fun full ends => ?lost, fun full inside => ?gapLost,
    fun n => Notice.merge_queueOverrun n 1, ?becomesDamaged⟩
  case stored => exact exec_stores (exec_engineRecordArrival outside ends) room
  case gapStored =>
    subst damaged
    exact exec_stores (exec_engineGapExpiry outside inside) room
  case lost =>
    obtain ⟨entry, ends⟩ := Option.isSome_iff_exists.mp ends
    exact exec_loses (exec_engineRecordArrival outside ends) full
  case gapLost => exact exec_loses (exec_engineGapExpiry outside inside) full
  case becomesDamaged =>
    rintro (broken | ⟨covered, bad⟩)
    · exact arrivalEntry_of_broken broken
    · exact arrivalEntry_of_badCheck bad

/-! ## The take of the head entry (R65 to R67) -/

section
variable {q : SheetQueue} {e : QueueEntry} {rest : List QueueEntry}

theorem SheetQueue.head_of_taking (taking : q.taking = true) (entries : q.entries = e :: rest) : q.head = some e := by
  rw [SheetQueue.head, if_pos taking, entries, List.head?_cons]

/-- The entry leaves the queue, and a count of 8 after it releases ENGINE HOLD (R65, R66). -/
theorem SheetQueue.taken_of_cons (entries : q.entries = e :: rest) :
    q.taken = { entries := rest, taking := false, hold := q.hold && decide (rest.length ≠ 8) } := by
  rw [SheetQueue.taken, entries, List.tail_cons]
  rfl

end

theorem damagedTaken_of_head {s : State} (head : s.queue.head = some .damaged) :
    s.damagedTaken =
      (s.setMeters { s.meters with damagedRecords := s.meters.damagedRecords.add 1 }).setQueue s.queue.taken := by
  rw [State.damagedTaken, head, ← Meters.addAll_damagedRecords]
  rfl

/-- Settles O26: the head is the DAMAGED entry, whose work is its count, and the end of the take removes it. -/
theorem damagedEntriesAreCounted : Obligations.DamagedEntriesAreCounted := by
  intro s rest outside taking entries
  have work := damagedTaken_of_head (SheetQueue.head_of_taking taking entries)
  rw [SheetQueue.taken_of_cons entries] at work
  show Host.Outcome.next (outsideReset s State.damagedTaken) = _
  rw [outsideReset_out outside, work]

end Sys2Proof.Machine
end

section
/-! PROOFS. The decimal addition of a meter (R77): the sum that fits, the sum that carries out of the eighth digit, the FULL meter,
two additions after one another, and the statement assembled from them (O28). -/

namespace Sys2Proof.Machine

namespace Meter

variable {m : Meter} {n : Nat}

/-! ## The two outcomes of an addition (R77) -/

theorem add_of_fits (fits : m.value + n ≤ Config.meterTop) : m.add n = { m with value := m.value + n } := by
  cases n with
  | zero => exact add_zero m
  | succ n => rw [add, if_neg (Nat.succ_ne_zero n), if_pos fits]

/-- A carry out of a meter within its eight digits needs an amount of 1 or more. -/
theorem add_of_carries (range : m.value ≤ Config.meterTop) (carries : Config.meterTop < m.value + n) :
    m.add n = { value := Config.meterTop, full := true } := by
  have amount : n ≠ 0 := by omega
  rw [add, if_neg amount, if_neg (Nat.not_le.mpr carries)]

/-! ## The FULL meter and repeated additions -/

/-- At the top with the mark set, an amount of 0 fits and any other carries. -/
theorem add_of_full (top : m.value = Config.meterTop) (full : m.full = true) : m.add n = m := by
  cases n with
  | zero => exact add_zero m
  | succ n =>
    rw [add_of_carries top.le (by omega), ← top, ← full]

/-- The parts of an amount may be added one after the other: saturation is reached by the total. -/
theorem add_add (range : m.value ≤ Config.meterTop) (k : Nat) : (m.add n).add k = m.add (n + k) := by
  rcases Nat.lt_or_ge Config.meterTop (m.value + n) with carries | fits
  · have both : Config.meterTop < m.value + (n + k) := by omega
    rw [add_of_carries range carries, add_of_carries range both, add_of_full rfl rfl]
  · rw [add_of_fits fits]
    rcases Nat.lt_or_ge Config.meterTop (m.value + n + k) with carries | fits'
    · rw [add_of_carries fits carries, add_of_carries range (Nat.add_assoc .. ▸ carries)]
    · rw [add_of_fits fits', add_of_fits (Nat.add_assoc .. ▸ fits'), Nat.add_assoc]

end Meter

/-- Settles O28: each device meter adds on its own, and the two outcomes of one addition give the other clauses. -/
theorem metersSaturate : Obligations.MetersSaturate := by
  refine ⟨fun _ _ => rfl, fun m n range top => ⟨fun fits => ?sum, fun carries => ?carry, fun full => ?full, m.add_zero,
    Meter.add_add range, m.add_value_le n range⟩⟩
  case sum => simp [Meter.add_of_fits fits]
  case carry => exact Meter.add_of_carries range carries
  case full => exact Meter.add_of_full (top full) full

end Sys2Proof.Machine
end

section
/-! PROOFS. REJECT REMOVE (R105): the serial that its body spells, what taking it off the reject list does to the cartridge
unit, and the statement assembled from them (O35). -/

namespace Sys2Proof.Machine

/-! ## A number is spelled by its bytes -/

/-- The bytes of a number, read on after a number already read, append its low bytes to it. -/
theorem foldl_be (n v acc : Nat) :
    (be n v).foldl (fun acc (b : Byte) => acc * 256 + b.toNat) acc = acc * 256 ^ n + v % 256 ^ n := by
  induction n generalizing acc with
  | zero => simp [be, Nat.mod_one]
  | succ n ih =>
    have byte : (BitVec.ofNat 8 (v / 256 ^ n)).toNat = v / 256 ^ n % 256 := BitVec.toNat_ofNat ..
    have split : v % 256 ^ (n + 1) = v % 256 ^ n + 256 ^ n * (v / 256 ^ n % 256) := Nat.mod_pow_succ
    rw [be, List.foldl_cons, ih, byte, split]
    ring

/-- A number of `n` bytes keeps what `n` bytes hold of it. -/
theorem num_be (n v : Nat) : num (be n v) = v % 256 ^ n := by
  rw [num, foldl_be, Nat.zero_mul, Nat.zero_add]

theorem num_wordBytes (w : BitVec 64) : num (wordBytes w) = w.toNat :=
  (num_be 8 w.toNat).trans (Nat.mod_eq_of_lt w.isLt)

@[simp] theorem parseSerial_wordBytes (serial : Serial) : parseSerial (wordBytes serial) = some serial := by
  have eight : (wordBytes serial).length = 8 := length_be 8 serial.toNat
  rw [parseSerial, if_pos eight, num_wordBytes, BitVec.ofNat_toNat, BitVec.setWidth_eq]

/-! ## A serial taken off the list -/

/-- Nothing of a slot but its retained fail count changes, and that only where the slot retains the serial. -/
theorem Slot.forgive_eq (serial : Serial) (sl : Slot) :
    sl.forgive serial =
      { sl with retainedFails := if sl.retainedSerial = some serial then 0 else sl.retainedFails } := by
  unfold Slot.forgive
  split <;> rfl

/-- Every slot is forgiven, each on its own. -/
theorem State.slot_unlist (s : State) (serial : Serial) (i : Fin 4) :
    (s.unlist serial).slot i = (s.slot i).forgive serial := by
  match i with
  | 0 | 1 | 2 | 3 => rfl

variable {s : State} {serial : Serial} {se : Session}

/-! ## REJECT REMOVE, check by check -/

theorem serveRejectRemove_notAdmin (other : s.isAdmin = false) :
    serveRejectRemove (wordBytes serial) s = refuse s .notPermitted := by
  rw [serveRejectRemove, parseSerial_wordBytes, withParsed_some, asAdmin_other other]

theorem serveRejectRemove_unlisted (active : s.session = some se) (admin : s.isAdmin = true)
    (absent : serial ∉ s.cart.rejectList) :
    serveRejectRemove (wordBytes serial) s = okWith (s.used se) [0] := by
  rw [serveRejectRemove, parseSerial_wordBytes, withParsed_some, asAdmin_admin active admin]
  exact if_neg (fun listed => absent (List.contains_iff_mem.mp listed))

theorem serveRejectRemove_listed (active : s.session = some se) (admin : s.isAdmin = true)
    (listed : serial ∈ s.cart.rejectList) :
    serveRejectRemove (wordBytes serial) s = okWith ((s.used se).unlist serial) [1] := by
  rw [serveRejectRemove, parseSerial_wordBytes, withParsed_some, asAdmin_admin active admin]
  exact if_pos (List.contains_iff_mem.mpr listed)

/-- Settles O35: the three answers of REJECT REMOVE, and of the last the state in which the serial is unlisted. -/
theorem rejectRemoveForgives : Obligations.RejectRemoveForgives := by
  refine fun s serial serving =>
    ⟨fun other => ?notAdmin, fun se active admin => ⟨fun absent => ?unlisted, fun listed => ?listed⟩⟩
  case notAdmin => exact requestFrame_no serving (serveRejectRemove_notAdmin other)
  case unlisted => exact requestFrame_ok serving (serveRejectRemove_unlisted active admin absent)
  case listed =>
    refine ⟨(s.used se).unlist serial, requestFrame_ok serving (serveRejectRemove_listed active admin listed), rfl,
      fun i => ?slots, rfl, rfl, rfl, rfl, rfl, rfl, rfl, rfl⟩
    exact ((s.used se).slot_unlist serial i).trans (Slot.forgive_eq serial (s.slot i))

end Sys2Proof.Machine
end

section
/-! PROOFS. DOCUMENT ERASE (R143): the number that its body spells, the document that the session may name, each check once, and
the statement of their order assembled from them (O51). -/

namespace Sys2Proof.Machine

/-- A body of `n` bytes spells each number that fits in them. -/
theorem parseNumber_be {n v : Nat} (fits : v < 256 ^ n) : parseNumber n (be n v) = some v := by
  rw [parseNumber, if_pos (length_be n v), num_be, Nat.mod_eq_of_lt fits]

variable {s : State} {se : Session} {n : Nat} {d : Document}

/-! ## The document that a request of the session names -/

namespace State

/-- The restart of the idle timer keeps the session's account, and so its authority. -/
theorem isAdmin_used (active : s.session = some se) : (s.used se).isAdmin = s.isAdmin :=
  (congrArg isAdmin (s.touchSession_some active)).symm.trans s.isAdmin_touchSession

theorem visibleDocument_absent (absent : s.document n = none) : s.visibleDocument se n = none := by
  rw [visibleDocument, absent, Option.filter_none]

/-- An admin may name every document, another account its own. -/
theorem visibleDocument_used (active : s.session = some se) (present : s.document n = some d) :
    (s.used se).visibleDocument se n = if s.isAdmin = true ∨ d.owner = se.position then some d else none := by
  have same : (s.used se).document n = some d := present
  simp only [visibleDocument, same, isAdmin_used active, Option.filter_some, Bool.or_eq_true, beq_iff_eq]

end State

/-! ## DOCUMENT ERASE, check by check -/

theorem serveDocumentErase_noSession (fits : n < 65536) (closed : s.session = none) :
    serveDocumentErase (be 2 n) s = refuse s .noSession := by
  rw [serveDocumentErase, parseNumber_be fits, withParsed_some, asSession_none closed]

theorem serveDocumentErase_range (fits : n < 65536) (active : s.session = some se) (zero : n = 0) :
    serveDocumentErase (be 2 n) s = refuse (s.used se) .range := by
  rw [serveDocumentErase, parseNumber_be fits, withParsed_some, asSession_some active, if_pos zero]

theorem serveDocumentErase_noDocument (fits : n < 65536) (active : s.session = some se) (positive : 1 ≤ n)
    (unseen : (s.used se).visibleDocument se n = none) :
    serveDocumentErase (be 2 n) s = refuse (s.used se) .noDocument := by
  rw [serveDocumentErase, parseNumber_be fits, withParsed_some, asSession_some active,
    if_neg (Nat.ne_of_gt positive), unseen]

theorem serveDocumentErase_inUse (fits : n < 65536) (active : s.session = some se) (positive : 1 ≤ n)
    (seen : (s.used se).visibleDocument se n = some d) (inUse : d.state = .writing ∨ d.job.isSome = true) :
    serveDocumentErase (be 2 n) s = refuse (s.used se) .inUse := by
  rw [serveDocumentErase, parseNumber_be fits, withParsed_some, asSession_some active,
    if_neg (Nat.ne_of_gt positive), seen]
  exact if_pos (by simpa using inUse)

theorem serveDocumentErase_erases (fits : n < 65536) (active : s.session = some se) (positive : 1 ≤ n)
    (seen : (s.used se).visibleDocument se n = some d) (stored : d.state = .stored) (unbound : d.job = none) :
    serveDocumentErase (be 2 n) s = okWith ((s.used se).eraseDocument n)
      (be 2 n ++ be 1 (((s.used se).eraseDocument n).ownedCount d.owner)) := by
  rw [serveDocumentErase, parseNumber_be fits, withParsed_some, asSession_some active,
    if_neg (Nat.ne_of_gt positive), seen]
  exact if_neg (by simp [stored, unbound])

/-- Settles O51: the checks of DOCUMENT ERASE one by one, each through the case of serveDocumentErase that it is. -/
theorem documentEraseForgetsTheDocument : Obligations.DocumentEraseForgetsTheDocument := by
  refine fun s se n d serving fits =>
    ⟨fun closed => ?noSession, fun active zero => ?range, fun active positive absent => ?absent,
      fun active positive present =>
        ⟨fun authority stored unbound => ?erased, fun authority inUse => ?inUse, fun notAdmin foreign => ?foreign⟩⟩
  case noSession => exact requestFrame_no serving (serveDocumentErase_noSession fits closed)
  case range => exact requestFrame_no serving (serveDocumentErase_range fits active zero)
  case absent =>
    have unseen : (s.used se).visibleDocument se n = none := State.visibleDocument_absent absent
    exact requestFrame_no serving (serveDocumentErase_noDocument fits active positive unseen)
  case erased =>
    have seen : (s.used se).visibleDocument se n = some d :=
      (State.visibleDocument_used active present).trans (if_pos authority)
    exact ⟨requestFrame_ok serving (serveDocumentErase_erases fits active positive seen stored unbound),
      (s.used se).document_eraseDocument n⟩
  case inUse =>
    have seen : (s.used se).visibleDocument se n = some d :=
      (State.visibleDocument_used active present).trans (if_pos authority)
    exact requestFrame_no serving (serveDocumentErase_inUse fits active positive seen inUse)
  case foreign =>
    have unseen : (s.used se).visibleDocument se n = none :=
      (State.visibleDocument_used active present).trans (if_neg (by simp [notAdmin, foreign]))
    exact requestFrame_no serving (serveDocumentErase_noDocument fits active positive unseen)

end Sys2Proof.Machine
end

section
/-! PROOFS. STREAM RELEASE (R155): the stream that its body names, what an unbinding does to the fill engine, the streams and the
jobs (R127), each outcome of the request once, and the statement assembled from them (O41). -/

namespace Sys2Proof.Machine

variable {s : State} {i : Fin 4} {n : Nat}

/-! ## The stream that a request names -/

theorem withStream_index (i : Fin 4) (serve : Fin 4 → Served) : withStream s i.val serve = serve i := by
  rw [withStream, State.streamIndex, dif_pos i.isLt]

theorem withStream_above (above : 4 ≤ n) (serve : Fin 4 → Served) : withStream s n serve = refuse s .range := by
  rw [withStream, State.streamIndex, dif_neg (Nat.not_lt.mpr above)]

namespace State

/-! ## The fill in hand, given up or kept (R127) -/

theorem giveUpFill_own (i : Fin 4) (b : Bool) (blocks : BlockRange) (live : Bool) :
    giveUpFill i (.half i b blocks live) = .half i b blocks false := by
  simp [giveUpFill]

/-- A range, the full fill and a half of another stream are cleared as before. -/
theorem giveUpFill_other {x : FillItem} (other : ∀ b blocks live, x ≠ .half i b blocks live) : giveUpFill i x = x := by
  cases x with
  | half j b blocks live =>
    have foreign : j ≠ i := fun same => other b blocks live (by rw [same])
    simp [giveUpFill, foreign]
  | range => rfl
  | full => rfl

theorem map_giveUpFill_other {fill : Option FillItem} (other : ∀ b blocks live, fill ≠ some (.half i b blocks live)) :
    fill.map (giveUpFill i) = fill := by
  cases fill with
  | none => rfl
  | some x => exact congrArg some (giveUpFill_other fun b blocks live same => other b blocks live (congrArg some same))

/-! ## What an unbinding does, block by block (R127, R155) -/

/-- The part of an unbinding before the stream's job: the pool, the ports and the stream's record (R127, R155). -/
def windowReleased (s : State) (i : Fin 4) : State :=
  ((s.setPool { s.pool with
      wipe := s.pool.wipe ++ ((s.stream i).window.map Window.range).toList
      waiting := s.pool.waiting.filter fun w => w.1 != i
      fill := s.pool.fill.map (giveUpFill i) }).setPorts (s.ports.stopWriting i)).setStream i {}

theorem unbind_of_unbound (unbound : (s.stream i).job = none) : s.unbind i = s.windowReleased i := by
  simp only [unbind, unbound]
  rfl

theorem unbind_of_bound (bound : (s.stream i).job = some n) :
    s.unbind i = (s.windowReleased i).changeJob n fun j => { j with stream := none } := by
  simp only [unbind, bound]
  rfl

/-- Whether the stream has a job or not, the rest of an unbinding touches the job table alone. -/
theorem unbind_eq_setJobs (s : State) (i : Fin 4) : s.unbind i = (s.windowReleased i).setJobs (s.unbind i).jobs := by
  cases bound : (s.stream i).job with
  | none => rw [unbind_of_unbound bound]; rfl
  | some n => rw [unbind_of_bound bound]; rfl

@[simp] theorem unbind_pool (s : State) (i : Fin 4) :
    (s.unbind i).pool = { s.pool with
      wipe := s.pool.wipe ++ ((s.stream i).window.map Window.range).toList
      waiting := s.pool.waiting.filter fun w => w.1 != i
      fill := s.pool.fill.map (giveUpFill i) } := by
  rw [unbind_eq_setJobs]; rfl

@[simp] theorem unbind_store (s : State) (i : Fin 4) : (s.unbind i).store = s.store := by rw [unbind_eq_setJobs]; rfl
@[simp] theorem unbind_link (s : State) (i : Fin 4) : (s.unbind i).link = s.link := by rw [unbind_eq_setJobs]; rfl
@[simp] theorem unbind_cipher (s : State) (i : Fin 4) : (s.unbind i).cipher = s.cipher := by rw [unbind_eq_setJobs]; rfl

theorem unbind_streams (s : State) (i : Fin 4) : (s.unbind i).streams = s.streams.set i {} := by rw [unbind_eq_setJobs]; rfl

@[simp] theorem stream_unbind_same (s : State) (i : Fin 4) : (s.unbind i).stream i = {} := by
  rw [stream, unbind_streams, Four.get_set_same]

theorem stream_unbind_other {k : Fin 4} (other : k ≠ i) : (s.unbind i).stream k = s.stream k := by
  rw [stream, unbind_streams, Four.get_set_other _ _ other, stream]

/-! ## The job of the stream -/

@[simp] theorem job_windowReleased (s : State) (i : Fin 4) (m : Nat) : (s.windowReleased i).job m = s.job m := rfl

/-- The job of the stream, where it is present, loses its bound stream. -/
theorem job_unbind_own {j : Job} (bound : (s.stream i).job = some n) (present : s.job n = some j) :
    (s.unbind i).job n = some { j with stream := none } := by
  rw [unbind_of_bound bound, job_changeJob, if_pos rfl, job_windowReleased, present, Option.map_some]

theorem job_unbind_other {m : Nat} (other : (s.stream i).job ≠ some m) : (s.unbind i).job m = s.job m := by
  cases bound : (s.stream i).job with
  | none => rw [unbind_of_unbound bound, job_windowReleased]
  | some n =>
    have distinct : m ≠ n := fun same => other (by rw [bound, same])
    rw [unbind_of_bound bound, job_changeJob, if_neg distinct, job_windowReleased]

/-! ## STREAM RELEASE, check by check -/

/-- An IDLE stream, a stream in FLOW and a stream with a half in hand keep their record (R155). -/
theorem releaseStream_busy (busy : (s.stream i).state = .idle ∨ (s.stream i).state = .flow ∨ (s.stream i).inHand = true) :
    s.releaseStream i = refuse s .busy := by
  rw [releaseStream]
  by_cases wrongState : (s.stream i).state = .idle ∨ (s.stream i).state = .flow
  · exact if_pos wrongState
  · have inHand : (s.stream i).inHand = true := (or_assoc.mpr busy).resolve_left wrongState
    exact (if_neg wrongState).trans (if_pos inHand)

theorem releaseStream_accepted (notIdle : (s.stream i).state ≠ .idle) (notFlow : (s.stream i).state ≠ .flow)
    (free : (s.stream i).inHand = false) : s.releaseStream i = okWith (s.unbind i) [] :=
  (if_neg (not_or.mpr ⟨notIdle, notFlow⟩)).trans (if_neg (by simp [free]))

end State

theorem serveStreamRelease_range (above : 4 ≤ n) (fits : n < 256) :
    serveStreamRelease (be 1 n) s = refuse s .range := by
  rw [serveStreamRelease, parseNumber_be (show n < 256 ^ 1 from fits), withParsed_some, withStream_above above]

theorem serveStreamRelease_index (s : State) (i : Fin 4) : serveStreamRelease (be 1 i.val) s = s.releaseStream i := by
  have fits : i.val < 256 ^ 1 := by omega
  rw [serveStreamRelease, parseNumber_be fits, withParsed_some, withStream_index]

/-- Settles O41: the two refusals, and of the accepted release what the unbinding leaves in each block. -/
theorem releaseUnbindsTheStream : Obligations.ReleaseUnbindsTheStream := by
  refine fun s i serving =>
    ⟨fun n above fits => ?range, fun busy => ?busy, fun notIdle notFlow free => ⟨s.unbind i, ?accepted,
      s.stream_unbind_same i, fun k => State.stream_unbind_other, ?wipe, ?mem, ?waiting,
      fun b blocks live own => ?ownFill, fun other => ?otherFill, fun n j => State.job_unbind_own,
      fun m => State.job_unbind_other, s.unbind_store i, s.unbind_link i, s.unbind_cipher i, unbind_images i⟩⟩
  case range => exact requestFrame_no serving (serveStreamRelease_range above fits)
  case busy =>
    exact requestFrame_no serving ((serveStreamRelease_index s i).trans (State.releaseStream_busy busy))
  case accepted =>
    exact requestFrame_ok serving
      ((serveStreamRelease_index s i).trans (State.releaseStream_accepted notIdle notFlow free))
  case ownFill => rw [s.unbind_pool i, own, Option.map_some, State.giveUpFill_own]
  case otherFill => rw [s.unbind_pool i, State.map_giveUpFill_other other]
  case wipe | mem | waiting => rw [s.unbind_pool i]

end Sys2Proof.Machine
end

section
/-! PROOFS. The end of an event (log 17), part by part: which blocks each part may touch, what it leaves of slots and streams, and
that nothing waits for a free resource after it. Settled from them: O3, and O60, which also reads off exec how each command ends. -/

namespace Sys2Proof.Machine

/-! ## Halts of several streams (R168) -/

section

variable {s : State} {i k : Fin 4} {cause : HaltCause}

theorem Stream.mayHalt_enterHalt (st : Stream) (c c' : HaltCause) (w : Option BandHeader) :
    (st.enterHalt c w).mayHalt c' = false := by
  have halted : (st.enterHalt c w).state = .halt := (enterHalt_state st c w).1
  simp [Stream.mayHalt, Stream.holdOrFlow, halted]

namespace State

/-- A stream that is not in the list, or that the cause does not halt, keeps its record. -/
theorem stream_haltAll_kept {l : List (Fin 4)} (kept : k ∉ l ∨ (s.stream k).mayHalt cause = false) :
    (s.haltAll cause l).stream k = s.stream k := by
  induction l generalizing s with
  | nil => rfl
  | cons i l ih =>
    have first : (s.halt i cause).stream k = s.stream k := by
      by_cases same : k = i
      · subst same
        have refused : (s.stream k).mayHalt cause = false := kept.resolve_left fun no => no List.mem_cons_self
        rw [halt_eq_self refused]
      · exact halt_stream_other cause same
    have rest : k ∉ l ∨ ((s.halt i cause).stream k).mayHalt cause = false := by
      rw [first]
      exact kept.imp_left fun no mem => no (List.mem_cons_of_mem i mem)
    exact (ih rest).trans first

/-- A stream of the list that the cause halts has entered HALT. -/
theorem stream_haltAll_halted {l : List (Fin 4)} (listed : k ∈ l) (may : (s.stream k).mayHalt cause = true) :
    ∃ w, (s.haltAll cause l).stream k = (s.stream k).enterHalt cause w := by
  induction l generalizing s with
  | nil => cases listed
  | cons i l ih =>
    by_cases same : k = i
    · subst same
      have entered := halt_stream_same may
      have stays : ((s.halt k cause).haltAll cause l).stream k = (s.halt k cause).stream k :=
        stream_haltAll_kept (.inr (by rw [entered]; exact Stream.mayHalt_enterHalt ..))
      exact ⟨_, stays.trans entered⟩
    · have untouched : (s.halt i cause).stream k = s.stream k := halt_stream_other cause same
      have later : k ∈ l := (List.mem_cons.mp listed).resolve_left same
      obtain ⟨w, entered⟩ := ih (s := s.halt i cause) later (by rw [untouched]; exact may)
      exact ⟨w, by rw [← untouched]; exact entered⟩

theorem haltAll_images (cause : HaltCause) (l : List (Fin 4)) (s : State) : s.SameBesidesImages (s.haltAll cause l) := by
  induction l generalizing s with
  | nil => exact .refl s
  | cons i l ih => exact (halt_images i cause).trans (ih _)

end State
end

/-! ## Four things at once -/

theorem mem_fourIndices (i : Fin 4) : i ∈ fourIndices := by
  revert i; decide

theorem mem_inTurn (last i : Fin 4) : i ∈ inTurn last := by
  revert last i; decide

namespace State

variable {s : State} {i k : Fin 4}

/-! ## Levels (R116, R117) -/

theorem updateLevel_streams (s : State) (i : Fin 4) : (s.updateLevel i).streams = s.streams := by
  unfold updateLevel
  dsimp only
  split <;> rfl

theorem slot_updateLevel_same (s : State) (i : Fin 4) :
    (s.updateLevel i).slot i = { s.slot i with level := (s.slot i).levelNow s.settings.lowMark } := by
  unfold updateLevel
  dsimp only
  split
  · next current => rw [current.1]
  · exact Four.get_set_same _ _ _

theorem slot_updateLevel_other (other : k ≠ i) : (s.updateLevel i).slot k = s.slot k := by
  unfold updateLevel
  dsimp only
  split
  · rfl
  · exact Four.get_set_other _ _ other

theorem moved_updateLevel_same (s : State) (i : Fin 4) : (s.updateLevel i).cart.levelMoved.get i = false := by
  unfold updateLevel
  dsimp only
  split
  · next current => exact current.2
  · exact Four.get_set_same _ _ _

theorem moved_updateLevel_other (other : k ≠ i) : (s.updateLevel i).cart.levelMoved.get k = s.cart.levelMoved.get k := by
  unfold updateLevel
  dsimp only
  split
  · rfl
  · exact Four.get_set_other _ _ other

/-- The mark of a slot whose level is recomputed, or was before, is clear. -/
theorem moved_updateLevel (s : State) (i k : Fin 4) (clear : k = i ∨ s.cart.levelMoved.get k = false) :
    (s.updateLevel i).cart.levelMoved.get k = false := by
  by_cases same : k = i
  · rw [same]; exact moved_updateLevel_same s i
  · rw [moved_updateLevel_other same]; exact clear.resolve_left same

/-- Recomputing the levels of a list of slots sets each of these to its level and leaves the others. -/
theorem slot_foldl_updateLevel (l : List (Fin 4)) (s : State) (k : Fin 4) :
    (l.foldl updateLevel s).slot k =
      if k ∈ l then { s.slot k with level := (s.slot k).levelNow s.settings.lowMark } else s.slot k := by
  induction l generalizing s with
  | nil => rfl
  | cons i l ih =>
    rw [List.foldl_cons, ih, (updateLevel_same i).settings]
    by_cases same : k = i
    · rw [same, slot_updateLevel_same, if_pos List.mem_cons_self]
      split <;> rfl
    · rw [slot_updateLevel_other same]
      simp [same]

theorem moved_foldl_updateLevel (l : List (Fin 4)) (s : State) (k : Fin 4)
    (clear : k ∈ l ∨ s.cart.levelMoved.get k = false) : (l.foldl updateLevel s).cart.levelMoved.get k = false := by
  induction l generalizing s with
  | nil => exact clear.resolve_left List.not_mem_nil
  | cons i l ih =>
    refine ih (s.updateLevel i) ?_
    by_cases later : k ∈ l
    · exact .inl later
    · exact .inr (moved_updateLevel s i k (by simpa [later] using clear))

theorem slot_updateLevels (s : State) (k : Fin 4) :
    s.updateLevels.slot k = { s.slot k with level := (s.slot k).levelNow s.settings.lowMark } := by
  rw [updateLevels, slot_foldl_updateLevel, if_pos (mem_fourIndices k)]

theorem moved_updateLevels (s : State) (k : Fin 4) : s.updateLevels.cart.levelMoved.get k = false :=
  moved_foldl_updateLevel _ s k (.inl (mem_fourIndices k))

theorem updateLevels_streams (s : State) : s.updateLevels.streams = s.streams := by
  simp only [updateLevels, fourIndices, List.foldl_cons, List.foldl_nil, updateLevel_streams]

/-! ## Availability (R118 to R121) -/

theorem updateAvailability_cart (s : State) :
    s.updateAvailability.cart = { s.cart with mono := s.cart.monoNow, colour := s.cart.colourNow } := by
  unfold updateAvailability
  dsimp only
  split
  · next current => rw [current.1, current.2]
  · rw [(haltAll_images _ _ _).cart]
    rfl

/-- A stream that the availabilities may halt is a RELEASE stream in HOLD or FLOW, and halts with cause TONER (R121). -/
theorem stream_updateAvailability (s : State) (k : Fin 4) :
    s.updateAvailability.stream k = s.stream k ∨
      (s.stream k).kind = some .release ∧ (s.stream k).holdOrFlow = true ∧
        ∃ w, s.updateAvailability.stream k = (s.stream k).enterHalt .toner w := by
  unfold updateAvailability
  dsimp only
  split
  · exact .inl rfl
  · generalize told : (s.setCart { s.cart with mono := s.cart.monoNow, colour := s.cart.colourNow }).post
      (.colourAvailability s.cart.availabilityReport) = t
    have streams : t.stream k = s.stream k := by rw [← told]; rfl
    by_cases listed : k ∈ fourIndices.filter
        (t.tonerHalts (s.cart.mono && !s.cart.monoNow) (s.cart.colour && !s.cart.colourNow))
    · have halts := (List.mem_filter.mp listed).2
      simp only [tonerHalts, streams, Bool.and_eq_true, beq_iff_eq] at halts
      obtain ⟨⟨release, running⟩, -⟩ := halts
      have may : (t.stream k).mayHalt .toner = true := by rw [streams, Stream.mayHalt, running, Bool.true_or]
      obtain ⟨w, entered⟩ := stream_haltAll_halted listed may
      exact .inr ⟨release, running, w, by rw [entered, streams]⟩
    · exact .inl ((stream_haltAll_kept (.inl listed)).trans streams)

/-! ## The grants, block by block -/

theorem cipherGrant_eq (s : State) : s.cipherGrant = (s.setStreams s.cipherGrant.streams).setCipher s.cipherGrant.cipher := by
  unfold cipherGrant
  split <;> rfl

theorem fillTake_eq (s : State) : s.fillTake = s.setPool s.fillTake.pool := by
  unfold fillTake
  split <;> rfl

theorem beginTake_eq (s : State) : s.beginTake = s.setQueue s.beginTake.queue := by
  unfold beginTake
  split <;> rfl

theorem lineGrantFrom_eq (l : List (Fin 4)) (s : State) :
    s.lineGrantFrom l = (s.setCart (s.lineGrantFrom l).cart).setDraws (s.lineGrantFrom l).draws := by
  induction l generalizing s with
  | nil => rfl
  | cons i l ih =>
    unfold lineGrantFrom
    split
    · exact ih s
    · rfl
    · rfl
    · split
      · rw [ih]; rfl
      · rfl

theorem lineGrant_eq (s : State) : s.lineGrant = (s.setCart s.lineGrant.cart).setDraws s.lineGrant.draws := by
  unfold lineGrant
  split
  · rfl
  · exact lineGrantFrom_eq _ s

@[simp] theorem cipherGrant_cart (s : State) : s.cipherGrant.cart = s.cart := by rw [cipherGrant_eq]; rfl
@[simp] theorem cipherGrant_pool (s : State) : s.cipherGrant.pool = s.pool := by rw [cipherGrant_eq]; rfl
@[simp] theorem cipherGrant_queue (s : State) : s.cipherGrant.queue = s.queue := by rw [cipherGrant_eq]; rfl
@[simp] theorem cipherGrant_link (s : State) : s.cipherGrant.link = s.link := by rw [cipherGrant_eq]; rfl
@[simp] theorem cipherGrant_ports (s : State) : s.cipherGrant.ports = s.ports := by rw [cipherGrant_eq]; rfl
@[simp] theorem fillTake_cart (s : State) : s.fillTake.cart = s.cart := by rw [fillTake_eq]; rfl
@[simp] theorem fillTake_streams (s : State) : s.fillTake.streams = s.streams := by rw [fillTake_eq]; rfl
@[simp] theorem fillTake_cipher (s : State) : s.fillTake.cipher = s.cipher := by rw [fillTake_eq]; rfl
@[simp] theorem fillTake_queue (s : State) : s.fillTake.queue = s.queue := by rw [fillTake_eq]; rfl
@[simp] theorem fillTake_link (s : State) : s.fillTake.link = s.link := by rw [fillTake_eq]; rfl
@[simp] theorem fillTake_ports (s : State) : s.fillTake.ports = s.ports := by rw [fillTake_eq]; rfl
@[simp] theorem lineGrant_pool (s : State) : s.lineGrant.pool = s.pool := by rw [lineGrant_eq]; rfl
@[simp] theorem lineGrant_streams (s : State) : s.lineGrant.streams = s.streams := by rw [lineGrant_eq]; rfl
@[simp] theorem lineGrant_cipher (s : State) : s.lineGrant.cipher = s.cipher := by rw [lineGrant_eq]; rfl
@[simp] theorem lineGrant_queue (s : State) : s.lineGrant.queue = s.queue := by rw [lineGrant_eq]; rfl
@[simp] theorem lineGrant_link (s : State) : s.lineGrant.link = s.link := by rw [lineGrant_eq]; rfl
@[simp] theorem lineGrant_ports (s : State) : s.lineGrant.ports = s.ports := by rw [lineGrant_eq]; rfl
@[simp] theorem beginTake_cart (s : State) : s.beginTake.cart = s.cart := by rw [beginTake_eq]; rfl
@[simp] theorem beginTake_pool (s : State) : s.beginTake.pool = s.pool := by rw [beginTake_eq]; rfl
@[simp] theorem beginTake_streams (s : State) : s.beginTake.streams = s.streams := by rw [beginTake_eq]; rfl
@[simp] theorem beginTake_cipher (s : State) : s.beginTake.cipher = s.cipher := by rw [beginTake_eq]; rfl
@[simp] theorem beginTake_link (s : State) : s.beginTake.link = s.link := by rw [beginTake_eq]; rfl
@[simp] theorem beginTake_ports (s : State) : s.beginTake.ports = s.ports := by rw [beginTake_eq]; rfl

end State

/-! ## The cipher unit's grant (R162, R163) -/

namespace Stream

/-- A grant moves the output half on and, for an ENCODE stream, the band and page it stands at (R162, R163). -/
theorem granted_eq (st : Stream) :
    st.granted = { st with half0 := st.granted.half0, half1 := st.granted.half1, output := st.granted.output,
                           nextBand := st.granted.nextBand, page := st.granted.page } := by
  unfold granted
  cases st.output <;> simp only [setHalf] <;> split <;> rfl

theorem granted_counts (st : Stream) (other : st.kind ≠ some .encode) :
    st.granted.nextBand = st.nextBand ∧ st.granted.page = st.page := by
  unfold granted
  cases st.output <;> simp [setHalf, other]

end Stream

namespace State

variable {s : State} {i k : Fin 4}

/-- A stream keeps its record, or it is the one that the cipher unit takes a half of. -/
theorem stream_cipherGrant (s : State) (k : Fin 4) :
    s.cipherGrant.stream k = s.stream k ∨ s.cipherGrant.stream k = (s.stream k).granted := by
  unfold cipherGrant
  split
  · next i _ _ =>
    by_cases same : k = i
    · exact .inr (by rw [same]; exact Four.get_set_same _ _ _)
    · exact .inl (Four.get_set_other _ _ same)
  · exact .inl rfl

/-- The free unit has taken a half, or there was none to take. -/
theorem cipherGrant_done (s : State) :
    s.cipherGrant.cipher.work.isSome = true ∨ ∀ i, s.cipherGrant.eligible i = false := by
  unfold cipherGrant
  split
  · exact .inl rfl
  · next unfit =>
    cases work : s.cipher.work with
    | some w => exact .inl rfl
    | none =>
      refine .inr fun i => ?_
      cases found : (inTurn s.cipher.lastServed).find? s.eligible with
      | some j => exact absurd found (unfit j work)
      | none => exact Bool.eq_false_iff.mpr (List.find?_eq_none.mp found i (mem_inTurn _ i))

/-! ## The fill engine's take (R129) and the sheet queue's (R66) -/

theorem fillTake_done (s : State) :
    s.fillTake.pool.fill.isSome = true ∨ s.fillTake.pool.waiting = [] ∧ s.fillTake.pool.wipe = [] := by
  unfold fillTake
  split
  · exact .inl rfl
  · exact .inl rfl
  · next unfit emptyHanded =>
    cases fill : s.pool.fill with
    | some x => exact .inl rfl
    | none =>
      cases waiting : s.pool.waiting with
      | cons x rest => exact (unfit x.1 x.2 rest fill waiting).elim
      | nil =>
        cases wipe : s.pool.wipe with
        | cons r rest => exact (emptyHanded r rest fill waiting wipe).elim
        | nil => exact .inr ⟨rfl, rfl⟩

theorem beginTake_done (s : State) : s.beginTake.queue.entries = [] ∨ s.beginTake.queue.taking = true := by
  unfold beginTake
  split
  · next none => exact .inl (List.isEmpty_iff.mp none)
  · exact .inr rfl

/-! ## The cartridge line's grant (R89, R90, R113) -/

/-- A transaction's beginning takes requests alone from the slots' records. -/
theorem slot_beginTransaction (s : State) (i k : Fin 4) (kind : LineKind) (w : LineWork) :
    (s.beginTransaction i kind w).slot k =
      { s.slot k with requests := ((s.beginTransaction i kind w).slot k).requests } := by
  have moved : (s.beginTransaction i kind w).slot k = if k = i then (s.slot i).withoutRequest kind else s.slot k :=
    Four.get_set ..
  rw [moved]
  split
  · next same => subst same; cases kind <;> rfl
  · rfl

theorem slot_lineGrantFrom (l : List (Fin 4)) (s : State) (k : Fin 4) :
    (s.lineGrantFrom l).slot k = { s.slot k with requests := ((s.lineGrantFrom l).slot k).requests } := by
  induction l generalizing s with
  | nil => rfl
  | cons i l ih =>
    unfold lineGrantFrom
    split
    · exact ih s
    · exact slot_beginTransaction ..
    · exact slot_beginTransaction s.drawn ..
    · split
      · have removed : (s.changeSlot i fun sl => sl.withoutRequest .debit).slot k =
            { s.slot k with requests := ((s.changeSlot i fun sl => sl.withoutRequest .debit).slot k).requests } :=
          slot_beginTransaction s i k .debit .identify
        rw [ih, removed]
      · exact slot_beginTransaction ..

theorem slot_lineGrant (s : State) (k : Fin 4) :
    s.lineGrant.slot k = { s.slot k with requests := (s.lineGrant.slot k).requests } := by
  unfold lineGrant
  split
  · rfl
  · exact slot_lineGrantFrom _ s k

/-- A slot whose first grantable request is a DEBIT has none once it is removed. -/
theorem grantable_withoutDebit {sl : Slot} (debit : sl.grantable = some .debit) :
    (sl.withoutRequest .debit).grantable = none := by
  cases state : sl.state <;> cases identify : sl.requests.identify <;> cases challenge : sl.requests.challenge <;>
    simp [Slot.grantable, state, identify, challenge, Slot.withoutRequest] at debit ⊢

theorem lineGrantFrom_done (l : List (Fin 4)) (s : State) :
    (s.lineGrantFrom l).cart.transaction.isSome = true ∨
      ∀ k, k ∈ l ∨ (s.slot k).grantable = none → ((s.lineGrantFrom l).slot k).grantable = none := by
  induction l generalizing s with
  | nil => exact .inr fun k => Or.rec (fun mem => absurd mem List.not_mem_nil) id
  | cons i l ih =>
    unfold lineGrantFrom
    split
    · next nothing =>
      refine (ih s).imp_right fun rest k waits => rest k ?_
      rcases waits with mem | free
      · rcases List.mem_cons.mp mem with first | later
        · exact .inr (first ▸ nothing)
        · exact .inl later
      · exact .inr free
    · exact .inl rfl
    · exact .inl rfl
    · next debit =>
      split
      · refine (ih _).imp_right fun rest k waits => rest k ?_
        by_cases same : k = i
        · subst same
          refine .inr ?_
          rw [changeSlot, slot_setSlot_same]
          exact grantable_withoutDebit debit
        · rw [changeSlot, slot_setSlot_other _ _ same]
          simpa [same] using waits
      · exact .inl rfl

theorem lineGrant_done (s : State) :
    s.lineGrant.cart.transaction.isSome = true ∨ ∀ k, (s.lineGrant.slot k).grantable = none := by
  unfold lineGrant
  split
  · next busy => exact .inl busy
  · exact (lineGrantFrom_done _ s).imp_right fun all k => all k (.inl (mem_inTurn _ k))

theorem lineGrantFrom_carried (l : List (Fin 4)) (s : State) :
    (s.lineGrantFrom l).cart.mono = s.cart.mono ∧ (s.lineGrantFrom l).cart.colour = s.cart.colour ∧
      (s.lineGrantFrom l).cart.levelMoved = s.cart.levelMoved := by
  induction l generalizing s with
  | nil => exact ⟨rfl, rfl, rfl⟩
  | cons i l ih =>
    unfold lineGrantFrom
    split
    · exact ih s
    · exact ⟨rfl, rfl, rfl⟩
    · exact ⟨rfl, rfl, rfl⟩
    · split
      · exact ih _
      · exact ⟨rfl, rfl, rfl⟩

/-- The line's grant leaves availabilities and level marks as they are. -/
theorem lineGrant_carried (s : State) :
    s.lineGrant.cart.mono = s.cart.mono ∧ s.lineGrant.cart.colour = s.cart.colour ∧
      s.lineGrant.cart.levelMoved = s.cart.levelMoved := by
  unfold lineGrant
  split
  · exact ⟨rfl, rfl, rfl⟩
  · exact lineGrantFrom_carried _ s

/-! ## The whole end of an event -/

/-- The end of an event but for the output line's grant. -/
def worked (s : State) : State := s.updateLevels.updateAvailability.cipherGrant.fillTake.lineGrant.beginTake

theorem finish_eq_worked (s : State) : s.finish = s.worked.setLink s.worked.link.arbitrate := rfl

theorem slot_worked (s : State) (k : Fin 4) :
    s.worked.slot k =
      { s.slot k with level := (s.slot k).levelNow s.settings.lowMark, requests := (s.worked.slot k).requests } := by
  have line := slot_lineGrant s.updateLevels.updateAvailability.cipherGrant.fillTake k
  have before : s.updateLevels.updateAvailability.cipherGrant.fillTake.slot k = s.updateLevels.slot k := by
    rw [slot, fillTake_cart, cipherGrant_cart, updateAvailability_cart, slot]
  have after : s.worked.slot k = s.updateLevels.updateAvailability.cipherGrant.fillTake.lineGrant.slot k := by
    rw [worked, slot, beginTake_cart, slot]
  rw [after, line, before, slot_updateLevels]

theorem slot_finish (s : State) (k : Fin 4) :
    s.finish.slot k =
      { s.slot k with level := (s.slot k).levelNow s.settings.lowMark, requests := (s.finish.slot k).requests } :=
  slot_worked s k

theorem stream_finish (s : State) (k : Fin 4) : s.finish.stream k = s.updateLevels.updateAvailability.cipherGrant.stream k := by
  rw [finish_eq_worked, worked, stream, setLink_streams, beginTake_streams, lineGrant_streams, fillTake_streams, stream]

/-- Availability asks for states and levels, which the requests do not touch. -/
theorem usable_worked (s : State) (k : Fin 4) : (s.worked.slot k).usable = (s.updateLevels.slot k).usable := by
  rw [slot_worked, slot_updateLevels]
  rfl

theorem worked_cart (s : State) :
    s.worked.cart.mono = s.updateLevels.cart.monoNow ∧ s.worked.cart.colour = s.updateLevels.cart.colourNow ∧
      s.worked.cart.levelMoved = s.updateLevels.cart.levelMoved := by
  have carried := lineGrant_carried s.updateLevels.updateAvailability.cipherGrant.fillTake
  simpa only [worked, beginTake_cart, fillTake_cart, cipherGrant_cart, updateAvailability_cart] using carried

/-- Nothing waits for a free resource once the parts of the end of an event have been worked out (log 17). -/
theorem worked_quiet (s : State) : s.worked.Quiet where
  levels k := by
    have lowMark : s.worked.settings = s.settings := (finish_same s).settings
    rw [slot_worked, lowMark]
    rfl
  moved k := by rw [(worked_cart s).2.2]; exact moved_updateLevels s k
  mono := by
    rw [(worked_cart s).1]
    exact usable_worked s 0
  colour := by
    rw [(worked_cart s).2.1]
    have usable := usable_worked s
    simp only [slot, Four.get] at usable
    simp only [CartUnit.colourNow, usable 0, usable 1, usable 2, usable 3]
  cipher := by
    have done := cipherGrant_done s.updateLevels.updateAvailability
    simpa only [worked, eligible, portBusy, stream, beginTake_cipher, beginTake_streams, lineGrant_cipher, lineGrant_streams,
      fillTake_cipher, fillTake_streams] using done
  fill := by
    have done := fillTake_done s.updateLevels.updateAvailability.cipherGrant
    simpa only [worked, beginTake_pool, lineGrant_pool] using done
  line := by
    have done := lineGrant_done s.updateLevels.updateAvailability.cipherGrant.fillTake
    simpa only [worked, slot, beginTake_cart] using done
  take := beginTake_done _

end State

/-- The output line is busy after its grant, or nothing waits for it (R174). -/
theorem Link.arbitrate_quiet (l : Link) : l.arbitrate.Quiet := by
  unfold arbitrate Quiet
  split
  · split
    · exact .inl TxState.noConfusion
    · exact .inl TxState.noConfusion
    · next ready notices => exact .inr ⟨ready, notices⟩
  · next busy => exact .inl (by simp [busy])
  · next busy => exact .inl (by simp [busy])

theorem State.finish_settled (s : State) : s.finish.Settled := ⟨s.worked_quiet.setLink _, Link.arbitrate_quiet _⟩

/-! ## What the end of an event does to a stream -/

namespace Stream

/-- The record after a grant of the cipher unit or a halt, field by field: what neither moves is as it was. -/
def MovedTo (st after : Stream) : Prop :=
  after = { st with state := after.state, haltCause := after.haltCause, idle := after.idle, half0 := after.half0,
                    half1 := after.half1, output := after.output, nextBand := after.nextBand, page := after.page }

theorem MovedTo.trans {a b c : Stream} (first : a.MovedTo b) (second : b.MovedTo c) : a.MovedTo c := by
  unfold MovedTo at *
  rw [second, first]

theorem movedTo_granted (st : Stream) : st.MovedTo st.granted := by
  unfold MovedTo
  rw [granted_eq]

theorem movedTo_setHalf (st : Stream) (b : Bool) (h : Half) : st.MovedTo (st.setHalf b h) := by
  cases b <;> rfl

/-- The stream with the frame being written into its intake half counted as FILLED (R131; log 14). -/
def withWriting (st : Stream) (w : Option BandHeader) : Stream :=
  match w with
  | none => st
  | some h => st.setHalf st.intake { state := .filled, header := some h }

/-- The rest of the entry to HALT (R131, R168). -/
def halted (st : Stream) (cause : HaltCause) : Stream :=
  let st := { st with half0 := st.half0.awaitFill, half1 := st.half1.awaitFill, state := .halt, haltCause := some cause,
                      idle := none }
  if st.kind = some .release then st.resumePoint else st

theorem enterHalt_eq (st : Stream) (cause : HaltCause) (w : Option BandHeader) :
    st.enterHalt cause w = (st.withWriting w).halted cause := by
  cases w <;> rfl

theorem movedTo_withWriting (st : Stream) (w : Option BandHeader) : st.MovedTo (st.withWriting w) := by
  cases w with
  | none => rfl
  | some h => exact movedTo_setHalf ..

theorem movedTo_halted (st : Stream) (cause : HaltCause) : st.MovedTo (st.halted cause) := by
  unfold halted
  dsimp only
  split <;> rfl

theorem movedTo_enterHalt (st : Stream) (cause : HaltCause) (w : Option BandHeader) : st.MovedTo (st.enterHalt cause w) := by
  rw [enterHalt_eq]
  exact (movedTo_withWriting st w).trans (movedTo_halted ..)

/-- A grant moves no state, halt cause or timer. -/
theorem granted_state (st : Stream) :
    st.granted.state = st.state ∧ st.granted.haltCause = st.haltCause ∧ st.granted.idle = st.idle := by
  rw [granted_eq]
  exact ⟨rfl, rfl, rfl⟩

end Stream

/-- Settles O3: the levels and requests of the slots, and for a stream the two moves of the end of an event in turn, a halt by the
availabilities and a grant. -/
theorem endOfEventKeepsRecords : Obligations.EndOfEventKeepsRecords := by
  intro s
  refine ⟨s.finish_same, fun i => ?stream, fun i => ⟨?slot, ?level⟩⟩
  case slot | level => rw [s.slot_finish i]
  case stream =>
    dsimp only
    rw [s.stream_finish i]
    have halts := s.updateLevels.stream_updateAvailability i
    rw [show s.updateLevels.stream i = s.stream i by rw [State.stream, State.updateLevels_streams, State.stream]] at halts
    generalize s.updateLevels.updateAvailability = t at halts ⊢
    have moved : (t.stream i).MovedTo (t.cipherGrant.stream i) := by
      rcases t.stream_cipherGrant i with same | granted
      · rw [same]; rfl
      · rw [granted]; exact Stream.movedTo_granted _
    have running : (t.cipherGrant.stream i).state = (t.stream i).state ∧
        (t.cipherGrant.stream i).haltCause = (t.stream i).haltCause ∧ (t.cipherGrant.stream i).idle = (t.stream i).idle ∧
        ((t.stream i).kind ≠ some .encode → (t.cipherGrant.stream i).nextBand = (t.stream i).nextBand ∧
          (t.cipherGrant.stream i).page = (t.stream i).page) := by
      rcases t.stream_cipherGrant i with same | granted
      · rw [same]; exact ⟨rfl, rfl, rfl, fun _ => ⟨rfl, rfl⟩⟩
      · obtain ⟨state, cause, idle⟩ := (t.stream i).granted_state
        rw [granted]; exact ⟨state, cause, idle, (t.stream i).granted_counts⟩
    obtain ⟨state, cause, idle, counts⟩ := running
    rcases halts with kept | ⟨release, holdOrFlow, w, entered⟩
    · rw [kept] at moved state cause idle counts
      exact ⟨moved, .inl ⟨state, cause, idle, counts⟩⟩
    · obtain ⟨halted, toner, stopped⟩ := enterHalt_state (s.stream i) .toner w
      rw [entered] at moved state cause idle
      exact ⟨(Stream.movedTo_enterHalt _ _ w).trans moved,
        .inr ⟨release, holdOrFlow, state.trans halted, cause.trans toner, idle.trans stopped⟩⟩

end Sys2Proof.Machine
end

section
/-! PROOFS. What a step is (log 4), how every command ends (log 17), and that every step ends settled (O1, O60). -/

namespace Sys2Proof.Machine

/-- Settles O1: the front of the queue decides, and the queue's rest is what the command finds. -/
theorem stepRunsFrontCommand : Obligations.StepRunsFrontCommand := fun _ _ _ => rfl

theorem step_empty {s : State} (idle : s.pending = []) : step s = .next s.tick := by
  unfold step
  rw [idle]

theorem step_cons {s : State} {c : Instr} {rest : List Instr} (waiting : s.pending = c :: rest) :
    step s = exec c (s.setPending rest) := by
  unfold step
  rw [waiting]

/-- A step is a tick, or the command at the front on the rest of the queue. -/
theorem step_cases {s t : State} (steps : step s = .next t) :
    t = s.tick ∨ ∃ c rest, exec c (s.setPending rest) = .next t := by
  cases pending : s.pending with
  | nil =>
    rw [step_empty pending] at steps
    exact .inl (Host.Outcome.next.inj steps).symm
  | cons c rest =>
    rw [step_cons pending] at steps
    exact .inr ⟨c, rest, steps⟩

/-! ## How a command ends -/

/-- The state after a command taken in `s`: the end of an event, a supply reset, no event, or the monitor's view of its input. -/
inductive Ends (s : State) : State → Prop where
  | finished (u : State) : Ends s u.finish
  | inReset {t : State} (resetting : t.resetting.isSome = true) : Ends s t
  | unchanged : Ends s s
  | viewed (x : TamperMonitor) : Ends s (s.setTamper x)

theorem ends_outsideReset (s : State) (event : State → State) : Ends s (outsideReset s event) := by
  unfold outsideReset
  split
  · exact .unchanged
  · exact .finished _

theorem ends_frameEnded (s : State) (line : List LineByte) : Ends s (s.frameEnded line) := by
  unfold State.frameEnded
  split
  · exact .unchanged
  · exact .unchanged
  · exact ends_outsideReset ..
  · split
    · exact ends_outsideReset ..
    · exact ends_outsideReset ..

theorem ends_frameGap (s : State) (line : List LineByte) : Ends s (s.frameGap line) := by
  unfold State.frameGap
  split
  · exact ends_outsideReset ..
  · exact .unchanged
  · exact .unchanged
  · exact .unchanged

/-- A change of presence is noted in a supply reset, and an event outside it. -/
theorem ends_presence (s : State) (i : Fin 4) (b : Bool) (u : State) :
    Ends s (if s.resetting.isSome then s.notePresence i b else u.finish) := by
  split
  · next resetting => exact .inReset resetting
  · exact .finished u

theorem ends_tamperAsserted (s : State) : Ends s s.tamperAsserted := by
  unfold State.tamperAsserted
  split
  · exact .unchanged
  · split
    · exact .inReset rfl
    · exact .finished _

theorem ends_resetEnded (s : State) : Ends s s.resetEnded := by
  unfold State.resetEnded
  split
  · exact .unchanged
  · exact .finished _

/-- Every command leads to a next state, and ends in one of the four ways. -/
theorem exec_ends (c : Instr) (s : State) : ∃ t, exec c s = .next t ∧ Ends s t := by
  cases c with
  | frameError line | frameWhileSlotOccupied line => exact ⟨_, rfl, ends_frameEnded s line⟩
  | cmdGapExpiry line => exact ⟨_, rfl, ends_frameGap s line⟩
  | cartInserted i | cartRemoved i => exact ⟨_, rfl, ends_presence ..⟩
  | tamperEvent => exact ⟨_, rfl, ends_tamperAsserted s⟩
  | tamperRelease => exact ⟨_, rfl, .viewed _⟩
  | supplyReset cause => exact ⟨_, rfl, .inReset rfl⟩
  | resetEnd => exact ⟨_, rfl, ends_resetEnded s⟩
  | _ => exact ⟨_, rfl, ends_outsideReset ..⟩

/-! ## Settled states -/

theorem Four.get_map {α : Type} (q : Four α) (f : α → α) (i : Fin 4) : (q.map f).get i = f (q.get i) := by
  unfold get
  split <;> rfl

namespace State

variable {s t : State}

theorem Settled.setPending (settled : s.Settled) (x : List Instr) : (s.setPending x).Settled :=
  ⟨⟨settled.1.levels, settled.1.moved, settled.1.mono, settled.1.colour, settled.1.cipher, settled.1.fill, settled.1.line,
    settled.1.take⟩, settled.2⟩

theorem Settled.setTamper (settled : s.Settled) (x : TamperMonitor) : (s.setTamper x).Settled :=
  ⟨settled.1.setTamper x, settled.2⟩

theorem settled_of_ends (ends : Ends s t) (settled : s.SettledOutsideReset) : t.SettledOutsideReset := by
  intro outside
  cases ends with
  | finished u => exact u.finish_settled
  | inReset resetting => rw [outside] at resetting; cases resetting
  | unchanged => exact settled outside
  | viewed x => exact (settled outside).setTamper x

/-! ## Timers, which nothing that settles looks at -/

theorem slot_later (s : State) (i : Fin 4) : s.later.slot i = (s.slot i).later := Four.get_map ..
theorem stream_later (s : State) (i : Fin 4) : s.later.stream i = (s.stream i).later := Four.get_map ..

theorem eligible_later (s : State) (i : Fin 4) : s.later.eligible i = s.eligible i := by
  unfold eligible
  rw [stream_later]
  rfl

theorem Settled.later (settled : s.Settled) : s.later.Settled where
  left :=
    { levels := fun i => by rw [slot_later]; exact settled.1.levels i
      moved := settled.1.moved
      mono := settled.1.mono
      colour := settled.1.colour
      cipher := settled.1.cipher.imp id fun free i => (eligible_later s i).trans (free i)
      fill := settled.1.fill
      line := by
        refine settled.1.line.imp (fun busy => ?_) fun free i => by rw [slot_later]; exact free i
        rw [← busy]
        exact Option.isSome_map
      take := settled.1.take }
  right := settled.2

theorem settled_tick (settled : s.SettledOutsideReset) : s.tick.SettledOutsideReset := by
  unfold tick
  split
  · exact settled
  · exact fun outside => ((settled outside).later).setPending _

end State

/-- Settles O60: a command ends settled unless it is no event, and a tick moves timers alone. -/
theorem stepsEndSettled : Obligations.StepsEndSettled := by
  intro s t settled steps
  rcases step_cases steps with rfl | ⟨c, rest, runs⟩
  · exact State.settled_tick settled
  · obtain ⟨t', next, ends⟩ := exec_ends c (s.setPending rest)
    rw [runs] at next
    cases next
    exact State.settled_of_ends ends fun outside => (settled outside).setPending rest

/-! ## The expiries that a tick queues (log 4) -/

theorem reached_later (t : Option Nat) (limit : Nat) : reached (later t) limit = true ↔ ∃ n, t = some n ∧ limit ≤ n + 1 := by
  cases t <;> simp [reached, later]

theorem mem_iteList {c x : Instr} {b : Bool} : c ∈ (if b then [x] else []) ↔ c = x ∧ b = true := by
  cases b <;> simp

/-- A list of expiries with one command per number due. -/
theorem mem_dueList {α : Type} {c : Instr} {l : List α} {due : α → Bool} {f : α → Instr} :
    c ∈ (l.filter due).map f ↔ ∃ x ∈ l, due x = true ∧ c = f x := by
  simp only [List.mem_map, List.mem_filter, and_assoc, eq_comm]

namespace State

variable {s : State} {c : Instr}

theorem mem_due : c ∈ s.due ↔
    (c = .sessionIdleExpiry ∧ reached (s.session.map (·.idle)) (s.settings.sessionIdle * 1000) = true) ∨
    (∃ j ∈ s.jobList, reached j.drain (s.settings.drainLimit * 1000) = true ∧ c = .drainExpiry j.number) ∨
    (∃ i, reached (s.slot i).recheck (s.settings.recheckPeriod * 1000) = true ∧ c = .recheckExpiry i) ∨
    (∃ i, reached (s.slot i).flush Config.flushMs = true ∧ c = .flushExpiry i) ∨
    (∃ i, reached (s.stream i).idle s.settings.streamIdle = true ∧ c = .streamIdleExpiry i) ∨
    (c = .cartAnswerTimeout ∧ reached (s.cart.transaction.map (·.elapsed)) Config.answerMs = true) := by
  simp only [due, List.mem_append, mem_iteList, mem_dueList, mem_fourIndices, true_and, or_assoc]

theorem session_later_idle : s.later.session.map (·.idle) = Machine.later (s.session.map (·.idle)) := by
  cases session : s.session <;> simp [later, session, Machine.later]

theorem transaction_later_elapsed :
    s.later.cart.transaction.map (·.elapsed) = Machine.later (s.cart.transaction.map (·.elapsed)) := by
  cases transaction : s.cart.transaction <;> simp [later, transaction, Machine.later]

/-- The job records after a tick. -/
theorem mem_jobList_later {p : Job → Prop} :
    (∃ j ∈ s.later.jobList, p j) ↔ ∃ x ∈ s.jobs.jobs, p { x.2 with drain := Machine.later x.2.drain } := by
  simp [later, jobList]

/-- The expiries due after a tick, each by its timer before it. -/
theorem mem_due_later : c ∈ s.later.due ↔
    (c = .sessionIdleExpiry ∧ ∃ se, s.session = some se ∧ s.settings.sessionIdle * 1000 ≤ se.idle + 1) ∨
    (∃ x ∈ s.jobs.jobs, ∃ n, x.2.drain = some n ∧ s.settings.drainLimit * 1000 ≤ n + 1 ∧ c = .drainExpiry x.2.number) ∨
    (∃ i n, (s.slot i).recheck = some n ∧ s.settings.recheckPeriod * 1000 ≤ n + 1 ∧ c = .recheckExpiry i) ∨
    (∃ i n, (s.slot i).flush = some n ∧ 2000 ≤ n + 1 ∧ c = .flushExpiry i) ∨
    (∃ i n, (s.stream i).idle = some n ∧ s.settings.streamIdle ≤ n + 1 ∧ c = .streamIdleExpiry i) ∨
    (c = .cartAnswerTimeout ∧ ∃ x, s.cart.transaction = some x ∧ 25 ≤ x.elapsed + 1) := by
  have settings : s.later.settings = s.settings := rfl
  rw [mem_due, settings, session_later_idle, transaction_later_elapsed, mem_jobList_later]
  simp only [slot_later, stream_later, Slot.later, Stream.later, reached_later, Option.map_eq_some_iff, Config.flushMs,
    Config.answerMs]
  grind

end State

/-- Settles O2: a tick is later, whose fields these are, with the expiries due as the queue. -/
theorem emptyQueueIsOneTick : Obligations.EmptyQueueIsOneTick := by
  intro s empty
  refine ⟨s.tick, step_empty empty, fun resetting => if_pos resetting, fun outside => ?_⟩
  have ticks : s.tick = s.later.setPending s.later.due := if_neg (by simp [outside])
  rw [ticks]
  exact ⟨rfl, rfl, s.slot_later, s.stream_later, rfl, rfl, rfl, rfl, rfl, rfl, rfl, rfl, rfl, rfl, rfl, rfl, rfl, rfl, rfl,
    rfl, rfl, rfl, rfl, outside, rfl, fun c => State.mem_due_later⟩

end Sys2Proof.Machine
end

section
/-! PROOFS. What the invariants look at, and the operations that leave it as it is: the job, account and stream records by the
fields that relate them (the core), and the parts of the state with a range of their own (Ordered). -/

namespace Sys2Proof.Machine

/-! ## The core -/

/-- The fields of a job that the invariants look at. -/
structure JobCore where
  number : Nat
  owner : Nat
  hold : Nat
  charged : Nat
  drawn : Nat
  arrears : Nat
  kind : JobKind
  stream : Option (Fin 4)
  closing : Bool

def Job.core (j : Job) : JobCore :=
  { number := j.number, owner := j.owner, hold := j.holdRemaining, charged := j.pointsCharged, drawn := j.pointsDrawn,
    arrears := j.pointsArrears, kind := j.kind, stream := j.stream, closing := j.state == .closing }

/-- The fields of a stream that the invariants look at. -/
structure StreamCore where
  kind : Option StreamKind
  job : Option Nat
  window : Option Window
  bound : Bool

def Stream.core (st : Stream) : StreamCore := { kind := st.kind, job := st.job, window := st.window, bound := st.bound }

/-- What relates the records of the state to each other. -/
structure Core where
  jobs : Table JobCore
  accounts : Table Nat
  streams : Fin 4 → StreamCore
  wipe : List BlockRange

namespace State

def core (s : State) : Core :=
  { jobs := s.jobs.jobs.map fun c => (c.1, c.2.core), accounts := s.accounts.map fun c => (c.1, c.2.balance),
    streams := fun i => (s.stream i).core, wipe := s.pool.wipe }

/-- The parts of InRange that look at one block each. -/
def Ordered (s : State) : Prop :=
  s.MemoryCanonical ∧ s.QueueInRange ∧ s.settings.InRange ∧ s.link.NoticesInOrder ∧ s.cart.ListsInRange ∧
    s.cart.ColourNeedsMono

/-- The core is as it was, and what lies in its range stays there. -/
structure Steady (s t : State) : Prop where
  core : t.core = s.core
  ordered : s.Ordered → t.Ordered

variable {s t u : State}

theorem Steady.refl (s : State) : s.Steady s := ⟨rfl, id⟩

theorem Steady.trans (first : s.Steady t) (second : t.Steady u) : s.Steady u :=
  ⟨second.core.trans first.core, second.ordered ∘ first.ordered⟩

theorem steady_foldl {α : Type} {f : State → α → State} (each : ∀ (s : State) (a : α), s.Steady (f s a)) (l : List α)
    (s : State) : s.Steady (l.foldl f s) := by
  induction l generalizing s with
  | nil => exact .refl s
  | cons a l ih => exact (each s a).trans (ih _)

/-! ## The blocks, one by one -/

theorem steady_setHouse (s : State) (x : Counters) : s.Steady (s.setHouse x) := ⟨rfl, id⟩
theorem steady_setSession (s : State) (x : Option Session) : s.Steady (s.setSession x) := ⟨rfl, id⟩
theorem steady_setRates (s : State) (x : Rates) : s.Steady (s.setRates x) := ⟨rfl, id⟩
theorem steady_setPorts (s : State) (x : Ports) : s.Steady (s.setPorts x) := ⟨rfl, id⟩
theorem steady_setCipher (s : State) (x : CipherUnit) : s.Steady (s.setCipher x) := ⟨rfl, id⟩
theorem steady_setStore (s : State) (x : DocStore) : s.Steady (s.setStore x) := ⟨rfl, id⟩
theorem steady_setTamper (s : State) (x : TamperMonitor) : s.Steady (s.setTamper x) := ⟨rfl, id⟩
theorem steady_setResetting (s : State) (x : Option ResetPhase) : s.Steady (s.setResetting x) := ⟨rfl, id⟩
theorem steady_drawn (s : State) : s.Steady s.drawn := ⟨rfl, id⟩
theorem steady_setPending (s : State) (x : List Instr) : s.Steady (s.setPending x) := ⟨rfl, id⟩
theorem steady_addMeters (s : State) (x : MeterAdds) : s.Steady (s.addMeters x) := ⟨rfl, id⟩
theorem steady_touchSession (s : State) : s.Steady s.touchSession := ⟨rfl, id⟩
theorem steady_setSlot (s : State) (i : Fin 4) (sl : Slot) : s.Steady (s.setSlot i sl) := ⟨rfl, id⟩
theorem steady_changeSlot (s : State) (i : Fin 4) (f : Slot → Slot) : s.Steady (s.changeSlot i f) := ⟨rfl, id⟩
theorem steady_setLevelMoved (s : State) (i : Fin 4) (b : Bool) : s.Steady (s.setLevelMoved i b) := ⟨rfl, id⟩
theorem steady_joinFill (s : State) (i : Fin 4) (halves : List Bool) : s.Steady (s.joinFill i halves) := ⟨rfl, id⟩
theorem steady_changeDocument (s : State) (n : Nat) (f : Document → Document) : s.Steady (s.changeDocument n f) := ⟨rfl, id⟩
theorem steady_eraseDocument (s : State) (n : Nat) : s.Steady (s.eraseDocument n) := ⟨rfl, id⟩

theorem steady_setCart {x : CartUnit} (lists : s.cart.ListsInRange → x.ListsInRange)
    (colour : s.cart.ColourNeedsMono → x.ColourNeedsMono) : s.Steady (s.setCart x) :=
  ⟨rfl, fun ⟨memory, queue, settings, notices, l, c⟩ => ⟨memory, queue, settings, notices, lists l, colour c⟩⟩

theorem steady_setQueue {x : SheetQueue} (range : s.QueueInRange → (s.setQueue x).QueueInRange) : s.Steady (s.setQueue x) :=
  ⟨rfl, fun ⟨memory, queue, rest⟩ => ⟨memory, range queue, rest⟩⟩

theorem steady_setSettings {x : Settings} (range : s.settings.InRange → x.InRange) : s.Steady (s.setSettings x) :=
  ⟨rfl, fun ⟨memory, queue, settings, rest⟩ => ⟨memory, queue, range settings, rest⟩⟩

theorem steady_setLink {x : Link} (order : s.link.NoticesInOrder → x.NoticesInOrder) : s.Steady (s.setLink x) :=
  ⟨rfl, fun ⟨memory, queue, settings, notices, rest⟩ => ⟨memory, queue, settings, order notices, rest⟩⟩

theorem steady_setPool {x : Pool} (wipe : x.wipe = s.pool.wipe) (mem : s.pool.mem.wf = true → x.mem.wf = true) :
    s.Steady (s.setPool x) :=
  ⟨by simp only [core, stream, setPool_pool, wipe]; rfl, fun ⟨memory, rest⟩ => ⟨mem memory, rest⟩⟩

theorem steady_setMem {m : Memory} (wf : s.pool.mem.wf = true → m.wf = true) : s.Steady (s.setMem m) := steady_setPool rfl wf

/-! ## The link -/

theorem steady_post (s : State) (n : Notice) : s.Steady (s.post n) := by
  refine steady_setLink fun ⟨few, distinct⟩ => ?_
  rcases s.link.post_keys n with same | ⟨fresh, room, added⟩
  · refine ⟨?_, same ▸ distinct⟩
    rw [← List.length_map (f := Notice.key), same, List.length_map]
    exact few
  · refine ⟨by rw [added, List.length_append]; exact room, ?_⟩
    rw [added, List.map_append, List.nodup_append]
    refine ⟨distinct, List.nodup_singleton _, ?_⟩
    rintro _ held _ posted rfl
    obtain ⟨h, mem, key⟩ := List.mem_map.mp held
    obtain rfl := List.mem_singleton.mp posted
    exact fresh h mem key

theorem steady_arbitrate (s : State) : s.Steady s.arbitrate := by
  refine steady_setLink fun ⟨few, distinct⟩ => ?_
  rcases s.link.arbitrate_notices with same | taken
  · exact ⟨same ▸ few, same ▸ distinct⟩
  · refine ⟨?_, ?_⟩
    · rw [taken, List.length_tail]; omega
    · rw [taken, List.map_tail]; exact distinct.tail

theorem steady_reply (s : State) (cls : Byte) (body : List Byte) : s.Steady (s.reply cls body) := ⟨rfl, id⟩

theorem steady_discard (s : State) : s.Steady (s.setLink s.link.discard) := ⟨rfl, id⟩

theorem steady_turnAway (s : State) (cls : Byte) : s.Steady (s.setLink (s.link.turnAway cls)) := by
  unfold Link.turnAway
  split <;> exact ⟨rfl, id⟩

theorem steady_sendComplete (s : State) : s.Steady (s.setLink s.link.sendComplete) := by
  unfold Link.sendComplete
  split <;> exact ⟨rfl, id⟩

/-! ## Records changed in fields that the core does not hold -/

theorem steady_setStream {i : Fin 4} {st : Stream} (same : st.core = (s.stream i).core) : s.Steady (s.setStream i st) := by
  refine ⟨?_, id⟩
  have streams : (fun k => ((s.setStream i st).stream k).core) = fun k => (s.stream k).core := by
    funext k
    by_cases own : k = i
    · rw [own, stream_setStream_same, same]
    · rw [stream_setStream_other _ _ own]
  unfold core
  rw [streams]
  rfl

theorem steady_changeStream {i : Fin 4} {f : Stream → Stream} (same : (f (s.stream i)).core = (s.stream i).core) :
    s.Steady (s.changeStream i f) := steady_setStream same

theorem steady_changeAccount (s : State) (p : Nat) {f : Account → Account} (same : ∀ a, (f a).balance = a.balance) :
    s.Steady (s.changeAccount p f) := by
  refine ⟨?_, id⟩
  have accounts : (Table.change s.accounts p f).map (fun c => (c.1, c.2.balance)) =
      s.accounts.map fun c => (c.1, c.2.balance) := by
    rw [Table.change, List.map_map]
    refine List.map_congr_left fun c _ => ?_
    dsimp only [Function.comp]
    split
    · rw [same]
    · rfl
  unfold core
  rw [← accounts]
  rfl

theorem steady_changeJob (s : State) (n : Nat) {f : Job → Job} (same : ∀ j, (f j).core = j.core) :
    s.Steady (s.changeJob n f) := by
  refine ⟨?_, id⟩
  have jobs : (Table.change s.jobs.jobs n f).map (fun c => (c.1, c.2.core)) =
      s.jobs.jobs.map fun c => (c.1, c.2.core) := by
    rw [Table.change, List.map_map]
    refine List.map_congr_left fun c _ => ?_
    dsimp only [Function.comp]
    split
    · rw [same]
    · rfl
  unfold core
  rw [← jobs]
  rfl

end State

/-! ## Halts and stops (R48, R168) -/

theorem Stream.core_of_movedTo {st after : Stream} (moved : st.MovedTo after) (bound : after.bound = st.bound) :
    after.core = st.core := by
  unfold core
  rw [bound, moved]

theorem Stream.bound_of_mayHalt {st : Stream} {cause : HaltCause} (may : st.mayHalt cause = true) : st.bound = true := by
  unfold mayHalt holdOrFlow at may
  unfold bound
  cases state : st.state <;> simp_all

theorem Stream.core_enterHalt {st : Stream} {cause : HaltCause} (may : st.mayHalt cause = true) (w : Option BandHeader) :
    (st.enterHalt cause w).core = st.core := by
  refine core_of_movedTo (movedTo_enterHalt ..) ?_
  rw [bound_of_mayHalt may, bound, (enterHalt_state st cause w).1]
  rfl

theorem Stream.core_granted (st : Stream) : st.granted.core = st.core := by
  refine core_of_movedTo st.movedTo_granted ?_
  rw [bound, bound, st.granted_state.1]

theorem Stream.core_setHalf (st : Stream) (b : Bool) (h : Half) : (st.setHalf b h).core = st.core := by
  cases b <;> rfl

/-- The close's own state, CLOSING, is not one that a stop reaches or leaves. -/
theorem Job.core_stopped (j : Job) (cause : StopCause) : (j.stopped cause).core = j.core := by
  unfold stopped active
  split
  · next running =>
    unfold core
    cases state : j.state <;> simp_all
  · rfl

/-- An OPEN job that starts to run. -/
theorem Job.core_run (j : Job) : (if j.state = .opened then { j with state := .running } else j).core = j.core := by
  split
  · next opened => simp [core, opened]
  · rfl

namespace State

variable {s : State}

theorem steady_haltStream (s : State) (i : Fin 4) (cause : HaltCause) : s.Steady (s.haltStream i cause) := by
  unfold haltStream
  split
  · next may =>
    exact ((steady_setStream (Stream.core_enterHalt may _)).trans (steady_setPorts ..)).trans (steady_joinFill ..)
  · exact .refl s

theorem steady_postHalt (s : State) (i : Fin 4) (cause : HaltCause) : s.Steady (s.postHalt i cause) := steady_post ..

theorem steady_halt (s : State) (i : Fin 4) (cause : HaltCause) : s.Steady (s.halt i cause) := by
  unfold halt
  split
  · exact (steady_haltStream s i cause).trans (steady_postHalt ..)
  · exact .refl s

theorem steady_haltAll (s : State) (cause : HaltCause) (l : List (Fin 4)) : s.Steady (s.haltAll cause l) :=
  steady_foldl (fun s i => s.steady_halt i cause) l s

theorem steady_stopJob (s : State) (n : Nat) (cause : StopCause) : s.Steady (s.stopJob n cause) := by
  unfold stopJob
  split
  · exact .refl s
  · next j _ =>
    split
    · have stops := (s.steady_changeJob n fun j => j.core_stopped cause).trans
        (steady_post _ (.jobStop n (s.userNumber j.owner) cause))
      dsimp only
      split
      · split
        · exact stops.trans (steady_halt ..)
        · exact stops
      · exact stops
    · exact .refl s

theorem steady_stopJobs (s : State) (cause : StopCause) (numbers : List Nat) : s.Steady (s.stopJobs cause numbers) :=
  steady_foldl (fun s n => s.steady_stopJob n cause) numbers s

theorem steady_reevaluate (s : State) (p : Nat) : s.Steady (s.reevaluate p) := by
  unfold reevaluate
  split
  · exact .refl s
  · dsimp only
    split
    · exact .refl s
    · have staged (stage : Stage) (n : Notice) : s.Steady ((s.changeAccount p fun a => { a with stage := stage }).post n) :=
        (s.steady_changeAccount p (f := fun a => { a with stage := stage }) fun _ => rfl).trans (steady_post _ n)
      split
      · exact (staged ..).trans (steady_stopJobs ..)
      · exact staged ..

theorem steady_reevaluateAll (s : State) : s.Steady s.reevaluateAll := steady_foldl steady_reevaluate _ s

theorem steady_reevaluateIf (s : State) (before p : Nat) : s.Steady (s.reevaluateIf before p) := by
  unfold reevaluateIf
  split
  · exact .refl s
  · exact s.steady_reevaluate p

/-! ## The end of the session (R17) -/

theorem steady_endBoxJob (s : State) (n : Nat) : s.Steady (s.endBoxJob n) := by
  unfold endBoxJob
  dsimp only
  split
  · exact (s.steady_stopJob n _).trans (steady_halt ..)
  · exact s.steady_stopJob n _

theorem steady_endSession (s : State) (cause : SessionEndCause) : s.Steady (s.endSession cause) := by
  unfold endSession
  split
  · exact .refl s
  · exact (((s.steady_setSession none).trans (steady_post ..)).trans (steady_foldl steady_endBoxJob ..)).trans
      (steady_haltAll ..)

/-! ## The end of an event (log 17) -/

theorem steady_updateLevel (s : State) (i : Fin 4) : s.Steady (s.updateLevel i) := by
  unfold updateLevel
  dsimp only
  split
  · exact .refl s
  · exact ((s.steady_setSlot i _).trans (steady_setLevelMoved ..)).trans (steady_post ..)

theorem steady_updateLevels (s : State) : s.Steady s.updateLevels := steady_foldl steady_updateLevel _ s

/-- Colour needs all four planes, mono the first of them (R118). -/
theorem colourNeedsMono_now (u : CartUnit) :
    ({ u with mono := u.monoNow, colour := u.colourNow } : CartUnit).ColourNeedsMono := by
  intro colour
  simp only [CartUnit.colourNow, Bool.and_eq_true] at colour
  exact colour.1.1.1

theorem steady_updateAvailability (s : State) : s.Steady s.updateAvailability := by
  unfold updateAvailability
  dsimp only
  split
  · exact .refl s
  · exact ((steady_setCart (x := { s.cart with mono := s.cart.monoNow, colour := s.cart.colourNow }) id
      fun _ => colourNeedsMono_now s.cart).trans (steady_post ..)).trans (steady_haltAll ..)

theorem steady_cipherGrant (s : State) : s.Steady s.cipherGrant := by
  unfold cipherGrant
  split
  · exact (steady_changeStream (Stream.core_granted _)).trans (steady_setCipher ..)
  · exact .refl s

theorem steady_fillTake (s : State) : s.Steady s.fillTake := by
  unfold fillTake
  split
  · exact steady_setPool rfl id
  · exact steady_setPool rfl id
  · exact .refl s

theorem steady_beginTransaction (s : State) (i : Fin 4) (k : LineKind) (w : LineWork) :
    s.Steady (s.beginTransaction i k w) := ⟨rfl, id⟩

theorem steady_lineGrantFrom (l : List (Fin 4)) (s : State) : s.Steady (s.lineGrantFrom l) := by
  induction l generalizing s with
  | nil => exact .refl s
  | cons i l ih =>
    unfold lineGrantFrom
    split
    · exact ih s
    · exact steady_beginTransaction ..
    · exact s.steady_drawn.trans (steady_beginTransaction ..)
    · split
      · exact (s.steady_changeSlot i _).trans (ih _)
      · exact steady_beginTransaction ..

theorem steady_lineGrant (s : State) : s.Steady s.lineGrant := by
  unfold lineGrant
  split
  · exact .refl s
  · exact steady_lineGrantFrom _ s

theorem steady_beginTake (s : State) : s.Steady s.beginTake := by
  unfold beginTake
  split
  · exact .refl s
  · exact steady_setQueue id

theorem steady_finish (s : State) : s.Steady s.finish :=
  (((((s.steady_updateLevels.trans (steady_updateAvailability _)).trans (steady_cipherGrant _)).trans
    (steady_fillTake _)).trans (steady_lineGrant _)).trans (steady_beginTake _)).trans (steady_arbitrate _)

/-! ## Intake (R157 to R161) -/

theorem steady_zeroHalf (s : State) (st : Stream) (b : Bool) : s.Steady (s.zeroHalf st b) := by
  unfold zeroHalf
  split
  · exact .refl s
  · exact steady_setMem fun wf => Memory.wf_zeroBlocks wf _

theorem steady_writeHalf (s : State) (st : Stream) (b : Bool) (bytes : List Byte) : s.Steady (s.writeHalf st b bytes) :=
  steady_setMem fun wf => Memory.wf_writeBytes wf _ _

theorem steady_writeArrival (s : State) (i : Fin 4) (n : Nat) : s.Steady (s.writeArrival i n) :=
  (s.steady_writeHalf ..).trans (steady_drawn _)

theorem steady_clearArrival (s : State) (i : Fin 4) (writing : Bool) : s.Steady (s.clearArrival i writing) := by
  unfold clearArrival
  split
  · exact steady_zeroHalf ..
  · exact .refl s

theorem steady_storeArrival (s : State) (i : Fin 4) (bytes : List Byte) : s.Steady (s.storeArrival i bytes) :=
  (s.steady_zeroHalf ..).trans (steady_writeHalf ..)

theorem steady_checkFailed (s : State) (i : Fin 4) : s.Steady (s.checkFailed i) := by
  have counted : s.Steady (s.changeStream i fun st => { st with checkErrors := min 3 ((s.stream i).checkErrors + 1) }) :=
    steady_changeStream rfl
  unfold checkFailed
  dsimp only
  split
  · exact counted.trans (steady_halt ..)
  · exact counted

theorem steady_runJob (s : State) (i : Fin 4) : s.Steady (s.runJob i) := by
  unfold runJob
  split
  · exact .refl s
  · exact s.steady_changeJob _ Job.core_run

theorem steady_notStored (s : State) (i : Fin 4) (writing : Bool) (r : Ruling) : s.Steady (s.notStored i writing r) := by
  refine (s.steady_clearArrival i writing).trans ?_
  unfold notStored
  generalize s.clearArrival i writing = t
  cases r with
  | refusedUncounted | stored => exact .refl t
  | refused | duplicate => exact steady_changeStream rfl
  | checkFailed => exact t.steady_checkFailed i
  | halted cause => exact t.steady_halt i cause

theorem steady_scanBegin (s : State) (h : ScanHeader) : s.Steady (s.scanBegin h) := by
  unfold scanBegin
  split
  · exact .refl s
  · split
    · exact steady_setPorts ..
    · dsimp only
      split
      · exact (s.steady_setPorts _).trans (steady_writeArrival ..)
      · exact steady_setPorts ..

theorem core_storedScan (st : Stream) (h : ScanHeader) : (st.storedScan h).core = st.core := by
  unfold Stream.storedScan
  cases st.intake <;> rfl

theorem core_storedImg (st : Stream) (h : ImgHeader) (tag : BitVec 64) (last : Bool) :
    (st.storedImg h tag last).core = st.core := by
  unfold Stream.storedImg
  cases st.intake <;> rfl

theorem stream_storeArrival (s : State) (i : Fin 4) (bytes : List Byte) (k : Fin 4) :
    (s.storeArrival i bytes).stream k = s.stream k := by
  unfold storeArrival zeroHalf
  split <;> rfl

theorem steady_scanStored (s : State) (i : Fin 4) (h : ScanHeader) (payload : List Byte) :
    s.Steady (s.scanStored i h payload) := by
  unfold scanStored
  dsimp only
  have recorded : s.Steady ((s.storeArrival i payload).setStream i ((s.stream i).storedScan h)) :=
    (s.steady_storeArrival i payload).trans
      (steady_setStream ((core_storedScan _ h).trans (by rw [stream_storeArrival])))
  refine (recorded.trans ?_).trans (steady_runJob ..)
  split
  · exact .refl _
  · exact steady_changeDocument ..

theorem steady_scanRuled (s : State) (i : Fin 4) (a : ScanArrival) (good : Bool) (payload : List Byte) :
    s.Steady (s.scanRuled i a good payload) := by
  unfold scanRuled
  split
  · exact steady_scanStored ..
  · exact steady_notStored ..

theorem steady_scanEnd (s : State) (good : ScanHeader → Bool) (payload : List Byte) : s.Steady (s.scanEnd good payload) := by
  unfold scanEnd
  split
  · exact .refl s
  · dsimp only
    split
    · exact steady_setPorts ..
    · exact (s.steady_setPorts _).trans (steady_scanRuled ..)

theorem steady_imgBegin (s : State) (h : ImgHeader) : s.Steady (s.imgBegin h) := by
  unfold imgBegin
  split
  · exact .refl s
  · split
    · exact steady_setPorts ..
    · dsimp only
      split
      · exact (s.steady_setPorts _).trans (steady_writeArrival ..)
      · exact steady_setPorts ..

theorem steady_imgStored (s : State) (i : Fin 4) (h : ImgHeader) (ciphertext : List Byte) (tag : BitVec 64) :
    s.Steady (s.imgStored i h ciphertext tag) :=
  ((s.steady_storeArrival i ciphertext).trans
    (steady_setStream ((core_storedImg _ h tag _).trans (by rw [stream_storeArrival])))).trans (steady_runJob ..)

theorem steady_imgRuled (s : State) (i : Fin 4) (a : ImgArrival) (good : Bool) (tail : ImgTail) :
    s.Steady (s.imgRuled i a good tail) := by
  unfold imgRuled
  split
  · exact steady_imgStored ..
  · exact steady_notStored ..

theorem steady_imgEnd (s : State) (good : ImgHeader → Bool) (tail : ImgTail) : s.Steady (s.imgEnd good tail) := by
  unfold imgEnd
  split
  · exact .refl s
  · dsimp only
    split
    · exact steady_setPorts ..
    · exact (s.steady_setPorts _).trans (steady_imgRuled ..)

theorem steady_streamIdle (s : State) (i : Fin 4) : s.Steady (s.streamIdle i) := by
  unfold streamIdle
  split
  · exact s.steady_halt i _
  · exact .refl s

/-! ## The cipher unit (R163 to R165) and the video port (R167) -/

theorem steady_changeHalf (s : State) (i : Fin 4) (b : Bool) (f : Stream → Half) :
    s.Steady (s.changeStream i fun st => st.setHalf b (f st)) := steady_changeStream (Stream.core_setHalf ..)

theorem steady_discardWork (s : State) (i : Fin 4) (b : Bool) : s.Steady (s.discardWork i b) :=
  (s.steady_changeHalf i b _).trans (steady_joinFill ..)

theorem steady_sendHalf (s : State) (i : Fin 4) (b : Bool) (bytes : List Byte) (tag : Option (BitVec 64)) :
    s.Steady (s.sendHalf i b bytes tag) := (s.steady_writeHalf ..).trans (steady_changeHalf ..)

theorem steady_encrypted (s : State) (i : Fin 4) (b : Bool) (h : BandHeader) : s.Steady (s.encrypted i b h) :=
  steady_sendHalf ..

theorem steady_released (s : State) (i : Fin 4) (b : Bool) (h : BandHeader) : s.Steady (s.released i b h) := by
  unfold released
  dsimp only
  split
  · exact (s.steady_sendHalf ..).trans (steady_changeStream rfl)
  · exact (s.steady_changeHalf i b _).trans (steady_halt ..)

theorem steady_cipherCompleted (s : State) (k : StreamKind) {result : State → Fin 4 → Bool → BandHeader → State}
    (steady : ∀ (s : State) i b h, s.Steady (result s i b h)) : s.Steady (s.cipherCompleted k result) := by
  unfold cipherCompleted
  split
  · exact .refl s
  · split
    · dsimp only
      refine (s.steady_setCipher { s.cipher with work := none }).trans ?_
      split
      · exact steady_discardWork ..
      · split
        · exact .refl _
        · exact steady ..
    · exact .refl s

theorem steady_emptyHalf (s : State) (i : Fin 4) (b : Bool) : s.Steady (s.emptyHalf i b) :=
  (s.steady_zeroHalf ..).trans (steady_changeHalf ..)

/-- A stream in HOLD or FLOW enters DONE. -/
theorem steady_enterDone {i : Fin 4} (running : (s.stream i).holdOrFlow = true) : s.Steady (s.enterDone i) := by
  have done : s.Steady (s.changeStream i fun st => { st with state := .done, idle := none }) := by
    refine steady_changeStream (Stream.core_of_movedTo rfl ?_)
    rw [Stream.bound_of_mayHalt (cause := .idle) (st := s.stream i) (by rw [Stream.mayHalt, running, Bool.true_or])]
    rfl
  exact done.trans (steady_post ..)

theorem steady_markScanComplete (s : State) (i : Fin 4) : s.Steady (s.markScanComplete i) := by
  unfold markScanComplete
  split
  · exact .refl s
  · exact s.steady_changeJob _ fun _ => rfl

theorem steady_bandSent (s : State) (i : Fin 4) : s.Steady (s.bandSent i) := by
  unfold bandSent
  split
  · exact .refl s
  · exact steady_changeDocument ..

theorem steady_videoSent (s : State) (i : Fin 4) (b : Bool) (h : BandHeader) : s.Steady (s.videoSent i b h) := by
  unfold videoSent
  dsimp only
  refine (s.steady_emptyHalf i b).trans ?_
  generalize s.emptyHalf i b = t
  have paged : t.Steady (if flagLastOfPage h.flags then t.changeStream i Stream.pageReleased else t) := by
    split
    · exact steady_changeStream rfl
    · exact .refl t
  generalize (if flagLastOfPage h.flags then t.changeStream i Stream.pageReleased else t) = u at paged ⊢
  split
  · next last => exact paged.trans (steady_enterDone last.2)
  · exact paged

theorem steady_sendCompleted (s : State) (k : StreamKind) {sent : State → Fin 4 → Bool → BandHeader → State}
    (steady : ∀ (s : State) i b h, s.Steady (sent s i b h)) : s.Steady (s.sendCompleted k sent) := by
  unfold sendCompleted
  split
  · exact .refl s
  · split
    · exact .refl s
    · exact steady ..

end State
end Sys2Proof.Machine
end

section
/-! PROOFS. The operations of toner, sheet queue, fills, cartridges, settings, documents, tamper and streams that leave what the
invariants look at as it is. -/

namespace Sys2Proof.Machine.State

variable {s : State}

/-! ## Toner (R98, R109 to R112) -/

theorem steady_debitAtQuantum (s : State) (i : Fin 4) : s.Steady (s.debitAtQuantum i) := by
  unfold debitAtQuantum
  split
  · exact steady_changeSlot ..
  · exact .refl s

theorem steady_debitIfDue (s : State) (i : Fin 4) : s.Steady (s.debitIfDue i) := by
  unfold debitIfDue
  split
  · exact steady_changeSlot ..
  · exact .refl s

theorem steady_postPlane (s : State) (i : Fin 4) (p : Posting) : s.Steady (s.postPlane i p) := by
  unfold postPlane
  split
  · exact .refl s
  · split
    · exact (s.steady_changeSlot i _).trans (steady_debitAtQuantum ..)
    · exact steady_addMeters ..

theorem steady_postSheet (s : State) (r : SheetRecord) (a : Option Attribution) : s.Steady (s.postSheet r a) :=
  (((s.steady_postPlane ..).trans (steady_postPlane ..)).trans (steady_postPlane ..)).trans (steady_postPlane ..)

theorem steady_flushExpired (s : State) (i : Fin 4) : s.Steady (s.flushExpired i) := by
  unfold flushExpired
  dsimp only
  split
  · split
    · exact (s.steady_changeSlot i _).trans (steady_changeSlot ..)
    · exact steady_changeSlot ..
  · exact .refl s

/-! ## The sheet queue (R62 to R65) -/

/-- A stored arrival: a count of 24 asserts ENGINE HOLD (R63, R65). -/
theorem queueInRange_store (room : s.queue.entries.length < Config.queueSize) (e : QueueEntry) (range : s.QueueInRange) :
    (s.setQueue (s.queue.store e)).QueueInRange := by
  obtain ⟨few, asserted, released⟩ := range
  have length : (s.setQueue (s.queue.store e)).queue.entries.length = s.queue.entries.length + 1 := List.length_append
  have hold : (s.setQueue (s.queue.store e)).queue.hold = (s.queue.hold || decide (s.queue.entries.length + 1 = 24)) := rfl
  rw [Config.queueSize] at room few
  rw [Config.holdAssert] at asserted
  rw [Config.holdRelease] at released
  rw [QueueInRange, length, hold, Config.queueSize, Config.holdAssert, Config.holdRelease]
  refine ⟨room, fun many => ?_, fun little => ?_⟩
  · rcases Nat.lt_or_ge s.queue.entries.length 24 with below | above
    · rw [decide_eq_true (by omega), Bool.or_true]
    · rw [asserted above, Bool.true_or]
  · rw [released (by omega), decide_eq_false (by omega), Bool.or_false]

/-- A take's end: a count of 8 releases ENGINE HOLD (R65, R66). -/
theorem queueInRange_taken (range : s.QueueInRange) : (s.setQueue s.queue.taken).QueueInRange := by
  obtain ⟨few, asserted, released⟩ := range
  have length : (s.setQueue s.queue.taken).queue.entries.length = s.queue.entries.length - 1 := List.length_tail
  have hold : (s.setQueue s.queue.taken).queue.hold = (s.queue.hold && decide (s.queue.entries.tail.length ≠ 8)) := rfl
  rw [Config.queueSize] at few
  rw [Config.holdAssert] at asserted
  rw [Config.holdRelease] at released
  rw [QueueInRange, length, hold, List.length_tail, Config.queueSize, Config.holdAssert, Config.holdRelease]
  refine ⟨by omega, fun many => ?_, fun little => ?_⟩
  · rw [asserted (by omega), decide_eq_true (by omega), Bool.and_true]
  · rcases Nat.lt_or_ge 8 s.queue.entries.length with above | below
    · rw [decide_eq_false (by omega), Bool.and_false]
    · rw [released below, Bool.false_and]

theorem steady_loseRecord (s : State) : s.Steady s.loseRecord := (s.steady_addMeters _).trans (steady_post ..)

theorem steady_recordArrived (s : State) (e : QueueEntry) : s.Steady (s.recordArrived e) := by
  unfold recordArrived
  split
  · next room => exact steady_setQueue (queueInRange_store room e)
  · exact s.steady_loseRecord

theorem steady_recordMaybe (s : State) (e : Option QueueEntry) : s.Steady (s.recordMaybe e) := by
  unfold recordMaybe
  split
  · exact .refl s
  · exact steady_recordArrived ..

theorem steady_endTake (s : State) : s.Steady s.endTake := steady_setQueue queueInRange_taken

theorem steady_damagedTaken (s : State) : s.Steady s.damagedTaken := by
  unfold damagedTaken
  split
  · exact (s.steady_addMeters _).trans (steady_endTake _)
  · exact .refl s

/-! ## Settlement, but for the money (R42, R43, R45) -/

theorem steady_settleHouse (s : State) (c : Nat) (k : Counts) : s.Steady (s.settleHouse c k) :=
  (s.steady_setHouse _).trans (steady_addMeters ..)

theorem steady_noteColour (s : State) (j : Job) (r : ChargeResult) : s.Steady (s.noteColour j r) := by
  unfold noteColour
  split
  · exact (s.steady_changeJob j.number (f := fun j => { j with colourUnexpected := true }) fun _ => rfl).trans (steady_post ..)
  · exact .refl s

theorem steady_sheetState (s : State) (n : Nat) : s.Steady (s.sheetState n) := by
  have runs := s.steady_changeJob n Job.core_run
  unfold sheetState
  dsimp only
  split
  · exact runs
  · split
    · exact runs.trans (steady_stopJob ..)
    · exact runs

theorem steady_releaseDocument (s : State) (j : Job) : s.Steady (s.releaseDocument j) := by
  unfold releaseDocument
  split
  · exact .refl s
  · split
    · exact steady_eraseDocument ..
    · exact steady_changeDocument ..
    · exact .refl s
    · exact .refl s

theorem steady_settleScanDocument (s : State) (j : Job) : s.Steady (s.settleScanDocument j) := by
  unfold settleScanDocument
  split
  · exact .refl s
  · split
    · exact steady_changeDocument ..
    · exact steady_eraseDocument ..

/-! ## Fills (R131, R133) -/

theorem steady_endFill (s : State) : s.Steady s.endFill := steady_setPool rfl id

theorem steady_halfFilled (s : State) : s.Steady s.halfFilled := by
  unfold halfFilled
  split
  · next i b blocks live _ =>
    have filled : s.Steady ((s.setMem (s.pool.mem.zeroBlocks blocks)).endFill) :=
      (steady_setMem fun wf => Memory.wf_zeroBlocks wf _).trans (steady_endFill _)
    dsimp only
    split
    · exact filled.trans (steady_changeHalf _ i b fun _ => {})
    · exact filled
  · exact .refl s

theorem steady_fullFilled (s : State) : s.Steady s.fullFilled := by
  unfold fullFilled
  split
  · exact (steady_setPool (x := { s.pool with mem := [], fill := none, underReset := false }) rfl fun _ => Memory.wf_nil).trans
      (steady_post ..)
  · exact .refl s

/-! ## Cartridges (R86 to R108) -/

theorem steady_tellCart (s : State) (i : Fin 4) (n : CartNews) : s.Steady (s.tellCart i n) := by
  unfold tellCart
  split
  · exact .refl s
  · exact steady_post ..

theorem steady_tellCarts (s : State) (news : List (Fin 4 × CartNews)) : s.Steady (s.tellCarts news) := by
  unfold tellCarts
  exact steady_foldl (fun s x => s.steady_tellCart x.1 x.2) news s

theorem steady_noteLevel (s : State) (i : Fin 4) : s.Steady (s.noteLevel i) := by
  unfold noteLevel
  split
  · exact .refl s
  · exact steady_setLevelMoved ..

theorem steady_cartInserted (s : State) (i : Fin 4) : s.Steady (s.cartInserted i) := by
  unfold cartInserted
  split
  · exact .refl s
  · exact (s.steady_changeSlot i _).trans (steady_tellCart ..)

theorem steady_cartRemoved (s : State) (i : Fin 4) : s.Steady (s.cartRemoved i) := by
  unfold cartRemoved
  dsimp only
  split
  · exact ((steady_setCart (x := s.cart.dropTransaction i) id id).trans (steady_setSlot ..)).trans (steady_tellCart ..)
  · exact .refl s

theorem steady_rejectListed (s : State) (i : Fin 4) (n : CartNews) : s.Steady (s.rejectListed i n) := by
  unfold rejectListed
  exact (s.steady_setSlot i _).trans (steady_tellCart ..)

/-- A full reject list drops its oldest serial, a full row of snapshots its oldest (R104, R106). -/
theorem listsInRange_reject {u : CartUnit} (range : u.ListsInRange) (serial : Serial) (x : Snapshot) :
    ({ u with snapshots := keepSnapshot u.snapshots x, rejectList := joinRejectList u.rejectList serial } :
      CartUnit).ListsInRange := by
  obtain ⟨few, distinct, kept⟩ := range
  refine ⟨?_, ?_, ?_⟩
  · dsimp only
    unfold joinRejectList
    split
    · exact few
    · split
      · next room => rw [List.length_append]; exact room
      · rw [List.length_append, List.length_tail, List.length_singleton, Config.rejectSize] at *; omega
  · dsimp only
    unfold joinRejectList
    split
    · exact distinct
    · next fresh =>
      have new : serial ∉ u.rejectList := by simpa using fresh
      split
      · exact List.nodup_append.mpr ⟨distinct, List.nodup_singleton _, by
          rintro a mem _ single rfl; exact new (List.mem_singleton.mp single ▸ mem)⟩
      · exact List.nodup_append.mpr ⟨distinct.tail, List.nodup_singleton _, by
          rintro a mem _ single rfl; exact new (List.mem_singleton.mp single ▸ List.mem_of_mem_tail mem)⟩
  · dsimp only
    unfold keepSnapshot
    split
    · next room => rw [List.length_append]; exact room
    · rw [List.length_append, List.length_tail, List.length_singleton, Config.snapshotSize] at *; omega

theorem steady_rejectFalse (s : State) (i : Fin 4) (serial : Serial) : s.Steady (s.rejectFalse i serial) :=
  ((steady_setCart (fun range => listsInRange_reject range serial (s.snapshot i serial)) id).trans
    (steady_addMeters ..)).trans (steady_foldl (fun t j => t.steady_changeSlot j _) ..)

theorem steady_rejectByFails (s : State) (i : Fin 4) (n : CartNews) : s.Steady (s.rejectByFails i n) := by
  unfold rejectByFails
  split
  · exact .refl s
  · exact (s.steady_rejectFalse ..).trans (steady_tellCarts ..)

theorem steady_examineSlot (x : State × List (Fin 4 × CartNews)) (i : Fin 4) : x.1.Steady (examineSlot x i).1 := by
  unfold examineSlot
  dsimp only
  split
  · split
    · exact .refl _
    · exact steady_rejectFalse ..
  · exact .refl _

theorem steady_examined (l : List (Fin 4)) (x : State × List (Fin 4 × CartNews)) :
    x.1.Steady (l.foldl examineSlot x).1 := by
  induction l generalizing x with
  | nil => exact .refl _
  | cons i l ih => exact (steady_examineSlot x i).trans (ih _)

theorem steady_examineSlots (s : State) : s.Steady s.examineSlots :=
  (steady_examined fourIndices (s, [])).trans (steady_tellCarts ..)

theorem steady_passChallenge (s : State) (i : Fin 4) : s.Steady (s.passChallenge i) := by
  unfold passChallenge
  dsimp only
  split
  · exact (s.steady_setSlot i _).trans (steady_tellCart ..)
  · exact (s.steady_setSlot i _).trans (steady_tellCart ..)
  · exact .refl s

theorem steady_failChallenge (s : State) (i : Fin 4) (n : CartNews) (cause : CartCause) :
    s.Steady (s.failChallenge i n cause) := by
  unfold failChallenge
  dsimp only
  split
  · exact (s.steady_setSlot i _).trans (steady_rejectByFails ..)
  · exact ((s.steady_setSlot i _).trans (steady_changeSlot ..)).trans (steady_tellCart ..)

theorem steady_afterRecord (s : State) (i : Fin 4) (x : Identity) (n : CartNews) : s.Steady (s.afterRecord i x n) := by
  unfold afterRecord
  split
  · exact steady_rejectByFails ..
  · split
    · exact steady_failChallenge ..
    · exact (s.steady_changeSlot i _).trans (steady_tellCart ..)

theorem steady_identifyNew (s : State) (i : Fin 4) (x : Identity) (n : CartNews) : s.Steady (s.identifyNew i x n) := by
  unfold identifyNew
  dsimp only
  split
  · exact steady_rejectListed ..
  · exact ((s.steady_setSlot i _).trans (steady_noteLevel ..)).trans (steady_afterRecord ..)

theorem steady_identifyOther (s : State) (i : Fin 4) (x : Identity) : s.Steady (s.identifyOther i x) :=
  ((s.steady_setSlot i _).trans (steady_noteLevel ..)).trans (steady_identifyNew ..)

theorem steady_checkRemaining (s : State) (i : Fin 4) (t : Nat) (n : CartNews) : s.Steady (s.checkRemaining i t n) := by
  have wrong (sl : Slot) : s.Steady ((s.setSlot i sl).noteLevel i) := (s.steady_setSlot i sl).trans (steady_noteLevel ..)
  have settles (sl : Slot) : s.Steady (((s.setSlot i sl).debitIfDue i).tellCart i n) :=
    ((s.steady_setSlot i sl).trans (steady_debitIfDue ..)).trans (steady_tellCart ..)
  unfold checkRemaining
  dsimp only
  split
  · split
    · exact steady_tellCart ..
    · exact (wrong _).trans (steady_failChallenge ..)
  · split
    · exact settles _
    · split
      · exact settles _
      · exact ((wrong _).trans (steady_debitIfDue ..)).trans (steady_failChallenge ..)

theorem steady_identifySilent (s : State) (i : Fin 4) (x : Identity) : s.Steady (s.identifySilent i x) := by
  unfold identifySilent
  dsimp only
  split
  · exact steady_rejectListed ..
  · split
    · exact (s.steady_setSlot i _).trans (steady_checkRemaining ..)
    · exact steady_identifyOther ..

theorem steady_identifyTrusted (s : State) (i : Fin 4) (x : Identity) : s.Steady (s.identifyTrusted i x) := by
  unfold identifyTrusted
  split
  · exact steady_checkRemaining ..
  · exact steady_identifyOther ..

theorem steady_identifyTaken (s : State) (i : Fin 4) (x : Identity) : s.Steady (s.identifyTaken i x) := by
  unfold identifyTaken
  split
  · exact steady_identifyNew ..
  · exact steady_identifyTrusted ..
  · exact steady_identifyTrusted ..
  · exact steady_identifySilent ..
  · exact .refl s
  · exact .refl s

theorem steady_challengeTaken (s : State) (i : Fin 4) (expected : BitVec 64) (fields : List Byte) :
    s.Steady (s.challengeTaken i expected fields) := by
  unfold challengeTaken
  split
  · exact steady_passChallenge ..
  · split
    · exact steady_failChallenge ..
    · exact steady_failChallenge ..
    · exact steady_failChallenge ..
    · exact .refl s
    · exact .refl s
    · exact .refl s

theorem steady_debitTaken (s : State) (i : Fin 4) (amount t : Nat) : s.Steady (s.debitTaken i amount t) := by
  unfold debitTaken
  dsimp only
  split
  · exact (s.steady_setSlot i _).trans (steady_debitIfDue ..)
  · exact (((s.steady_setSlot i _).trans (steady_noteLevel ..)).trans (steady_debitIfDue ..)).trans (steady_failChallenge ..)

theorem steady_afterDebit (s : State) (i : Fin 4) (w : LineWork) : s.Steady (s.afterDebit i w) := by
  cases w with
  | debit m => exact steady_debitIfDue ..
  | identify | challenge => exact .refl s

theorem steady_unanswered (s : State) (i : Fin 4) (w : LineWork) : s.Steady (s.unanswered i w) :=
  ((s.steady_setSlot i _).trans (steady_afterDebit ..)).trans (steady_tellCart ..)

theorem steady_goodAnswer (s : State) (i : Fin 4) (w : LineWork) (fields : List Byte) : s.Steady (s.goodAnswer i w fields) := by
  refine (s.steady_changeSlot i fun sl => { sl with unanswered := 0 }).trans ?_
  cases w with
  | identify => exact steady_identifyTaken ..
  | challenge bytes expected => exact steady_challengeTaken ..
  | debit amount => exact steady_debitTaken ..

theorem steady_endTransaction (s : State) {outcome : State → Transaction → State}
    (steady : ∀ (s : State) t, s.Steady (outcome s t)) : s.Steady (s.endTransaction outcome) := by
  have ended : s.Steady (s.setCart { s.cart with transaction := none }) := steady_setCart id id
  unfold endTransaction
  split
  · exact .refl s
  · dsimp only
    split
    · exact ended.trans (steady ..)
    · exact ended

theorem steady_tagAnswer (s : State) (answer : List Byte) : s.Steady (s.tagAnswer answer) := by
  refine s.steady_endTransaction fun s t => ?_
  split
  · exact steady_goodAnswer ..
  · exact steady_unanswered ..

theorem steady_answerTimeout (s : State) : s.Steady s.answerTimeout :=
  s.steady_endTransaction fun s t => s.steady_unanswered t.slot t.work

theorem steady_recheckExpired (s : State) (i : Fin 4) : s.Steady (s.recheckExpired i) := by
  unfold recheckExpired
  split
  · exact steady_changeSlot ..
  · exact .refl s

theorem steady_unlist (s : State) (serial : Serial) : s.Steady (s.unlist serial) :=
  steady_setCart (fun ⟨few, distinct, kept⟩ => ⟨(List.length_filter_le ..).trans few, distinct.filter _, kept⟩) id

/-! ## What a changed setting does (R176) -/

theorem steady_sessionPast (s : State) : s.Steady s.sessionPast := by
  unfold sessionPast
  split
  · exact steady_endSession ..
  · exact .refl s

theorem steady_recheckPast (s : State) (i : Fin 4) : s.Steady (s.recheckPast i) := by
  unfold recheckPast
  split
  · exact steady_recheckExpired ..
  · exact .refl s

theorem steady_verifyPast (s : State) (i : Fin 4) : s.Steady (s.verifyPast i) := steady_changeSlot ..

theorem steady_streamPast (s : State) (i : Fin 4) : s.Steady (s.streamPast i) := by
  unfold streamPast
  split
  · exact steady_halt ..
  · exact .refl s

/-- A clamped value lies in its setting's range, and the stop level follows a lowered caution level (R176). -/
theorem inRange_put {st : Settings} (range : st.InRange) (n : Fin 13) (v : Nat) : (st.put n (st.clamp n v)).InRange := by
  obtain ⟨r0, r1, r2, r3, r4, r5, r6, r7, r8, r9, r10, r12⟩ := range
  have bounds (low high : Nat) (order : low ≤ high) : low ≤ max low (min high v) ∧ max low (min high v) ≤ high := by omega
  match n with
  | 0 => exact ⟨(bounds _ _ (Nat.zero_le _)).2, Nat.min_le_right .., r2, r3, r4, r5, r6, r7, r8, r9, r10, r12⟩
  | 1 => exact ⟨r0, (bounds _ _ (Nat.zero_le _)).2, r2, r3, r4, r5, r6, r7, r8, r9, r10, r12⟩
  | 2 => exact ⟨r0, r1, (bounds _ _ (Nat.zero_le _)).2, r3, r4, r5, r6, r7, r8, r9, r10, r12⟩
  | 3 => exact ⟨r0, r1, r2, bounds 10 900 (by decide), r4, r5, r6, r7, r8, r9, r10, r12⟩
  | 4 => exact ⟨r0, r1, r2, r3, (bounds _ _ (Nat.zero_le _)).2, r5, r6, r7, r8, r9, r10, r12⟩
  | 5 => exact ⟨r0, r1, r2, r3, r4, bounds 50 5000 (by decide), r6, r7, r8, r9, r10, r12⟩
  | 6 => exact ⟨r0, r1, r2, r3, r4, r5, bounds 1 15 (by decide), r7, r8, r9, r10, r12⟩
  | 7 => exact ⟨r0, r1, r2, r3, r4, r5, r6, bounds 1 60 (by decide), r8, r9, r10, r12⟩
  | 8 => exact ⟨r0, r1, r2, r3, r4, r5, r6, r7, bounds 10 300 (by decide), r9, r10, r12⟩
  | 9 => exact ⟨r0, r1, r2, r3, r4, r5, r6, r7, r8, bounds 200 30000 (by decide), r10, r12⟩
  | 10 => exact ⟨r0, r1, r2, r3, r4, r5, r6, r7, r8, r9, bounds 10 600 (by decide), r12⟩
  | 11 => exact ⟨r0, r1, r2, r3, r4, r5, r6, r7, r8, r9, r10, r12⟩
  | 12 => exact ⟨r0, r1, r2, r3, r4, r5, r6, r7, r8, r9, r10, bounds 1 64 (by decide)⟩

/-! ## Tamper (R146, R147) -/

theorem steady_tamperRetained (s : State) : s.Steady s.tamperRetained :=
  ((s.steady_setTamper _).trans (steady_setStore ..)).trans (steady_addMeters ..)

theorem steady_clearScanMarks (s : State) : s.Steady s.clearScanMarks := by
  refine ⟨?_, id⟩
  simp only [core, clearScanMarks, setJobs_jobs, List.map_map]
  rfl

theorem steady_tamperJob (halted : List (Fin 4)) (s : State) (n : Nat) : s.Steady (tamperJob halted s n) := by
  unfold tamperJob
  dsimp only
  split
  · split
    · exact (s.steady_stopJob n _).trans (steady_postHalt ..)
    · exact s.steady_stopJob n _
  · exact s.steady_stopJob n _

theorem steady_tamperTaken (s : State) : s.Steady s.tamperTaken := by
  unfold tamperTaken
  dsimp only
  refine Steady.trans ?_ (steady_endSession ..)
  refine Steady.trans ?_ (steady_foldl (fun s i => s.steady_postHalt i .tamper) ..)
  refine Steady.trans ?_ (steady_foldl (steady_tamperJob _) ..)
  refine Steady.trans ?_ (steady_post ..)
  refine Steady.trans ?_ (steady_tamperRetained _)
  exact (steady_foldl (fun s i => s.steady_haltStream i .tamper) ..).trans (steady_clearScanMarks _)

/-! ## Ticks and presence in a reset -/

theorem core_later (s : State) : s.later.core = s.core := by
  unfold core
  rw [show (fun i => (s.later.stream i).core) = fun i => (s.stream i).core from funext fun i => by rw [stream_later]; rfl]
  simp only [later, setStreams_jobs, setCart_jobs, setJobs_jobs, List.map_map]
  rfl

theorem steady_tick (s : State) : s.Steady s.tick := by
  unfold tick
  split
  · exact .refl s
  · exact ⟨core_later s, id⟩

end Sys2Proof.Machine.State
end

section
/-! PROOFS. Tables under their operations, and the invariants said of the core: what each operation on a job, an account or a stream
keeps of them (R1, R2, R34, R35, R41, R126, R149, R151, R155). -/

namespace Sys2Proof.Machine

/-! ## Tables -/

namespace Table

variable {α β : Type}

/-- The records of a table seen through a function. -/
def mapVal (f : α → β) (t : Table α) : Table β := t.map fun c => (c.1, f c.2)

theorem find_mapVal (f : α → β) (t : Table α) (n : Nat) : find (mapVal f t) n = (find t n).map f := by
  induction t with
  | nil => rfl
  | cons c rest ih =>
    obtain ⟨k, v⟩ := c
    simp only [mapVal, List.map_cons, find_cons] at ih ⊢
    split
    · rfl
    · exact ih

theorem mapVal_put (f : α → β) (t : Table α) (n : Nat) (x : α) : mapVal f (put t n x) = put (mapVal f t) n (f x) := by
  induction t with
  | nil => rfl
  | cons c rest ih =>
    obtain ⟨k, v⟩ := c
    simp only [mapVal, put, List.map_cons] at ih ⊢
    split
    · rfl
    · split
      · rfl
      · rw [List.map_cons, ih]

theorem mapVal_drop (f : α → β) (t : Table α) (n : Nat) : mapVal f (drop t n) = drop (mapVal f t) n := by
  simp only [mapVal, drop, List.filter_map]
  rfl

/-- A change seen through a function, where the function sees it as another change. -/
theorem mapVal_change {f : α → β} {g : α → α} {h : β → β} (sees : ∀ a, f (g a) = h (f a)) (t : Table α) (n : Nat) :
    mapVal f (change t n g) = change (mapVal f t) n h := by
  simp only [mapVal, change, List.map_map]
  refine List.map_congr_left fun c _ => ?_
  simp only [Function.comp]
  split
  · rw [sees]
  · rfl

theorem rising_iff (t : Table α) : rising t = true ↔ (t.map Prod.fst).Pairwise (· < ·) := decide_eq_true_iff

theorem rising_cons {k : Nat} {v : α} {rest : Table α} :
    rising ((k, v) :: rest) = true ↔ (∀ c ∈ rest, k < c.1) ∧ rising rest = true := by
  simp [rising_iff]

theorem rising_mapVal (f : α → β) (t : Table α) : rising (mapVal f t) = rising t := by
  simp only [rising, mapVal, List.map_map]
  rfl

theorem mem_change {t : Table α} {n : Nat} {f : α → α} {c : Nat × α} :
    c ∈ change t n f ↔ ∃ d ∈ t, c = if d.1 = n then (d.1, f d.2) else d := by
  simp only [change, List.mem_map, eq_comm]

theorem fst_change (t : Table α) (n : Nat) (f : α → α) : (change t n f).map Prod.fst = t.map Prod.fst := by
  simp only [change, List.map_map]
  refine List.map_congr_left fun c _ => ?_
  simp only [Function.comp]
  split <;> rfl

theorem rising_change {t : Table α} (n : Nat) (f : α → α) (up : rising t = true) : rising (change t n f) = true := by
  rw [rising_iff] at up ⊢
  rw [fst_change]
  exact up

theorem rising_drop {t : Table α} (n : Nat) (up : rising t = true) : rising (drop t n) = true := by
  rw [rising_iff] at up ⊢
  exact up.sublist (List.filter_sublist.map _)

theorem mem_drop {t : Table α} {n : Nat} {c : Nat × α} : c ∈ drop t n ↔ c ∈ t ∧ c.1 ≠ n := by
  simp only [drop, List.mem_filter, bne_iff_ne]

/-- What a table holds after a put is the record put or was there before. -/
theorem mem_put {t : Table α} {n : Nat} {x : α} {c : Nat × α} (mem : c ∈ put t n x) : c = (n, x) ∨ c ∈ t := by
  induction t with
  | nil => exact .inl (List.mem_singleton.mp mem)
  | cons d rest ih =>
    obtain ⟨k, v⟩ := d
    unfold put at mem
    split at mem
    · exact List.mem_cons.mp mem
    · split at mem
      · exact (List.mem_cons.mp mem).imp_right (List.mem_cons_of_mem _)
      · rcases List.mem_cons.mp mem with first | later
        · exact .inr (first ▸ List.mem_cons_self)
        · exact (ih later).imp_right (List.mem_cons_of_mem _)

theorem mem_fst_put (t : Table α) (n : Nat) (x : α) (k : Nat) (mem : k ∈ t.map Prod.fst) : k ∈ (put t n x).map Prod.fst := by
  induction t with
  | nil => cases mem
  | cons d rest ih =>
    obtain ⟨m, v⟩ := d
    unfold put
    split
    · exact List.mem_cons_of_mem _ mem
    · split
      · next same =>
        subst same
        exact mem
      · rcases List.mem_cons.mp mem with first | later
        · exact first ▸ List.mem_cons_self
        · exact List.mem_cons_of_mem _ (ih later)

theorem rising_put {t : Table α} (n : Nat) (x : α) (up : rising t = true) : rising (put t n x) = true := by
  induction t with
  | nil => rfl
  | cons d rest ih =>
    obtain ⟨k, v⟩ := d
    obtain ⟨above, risen⟩ := rising_cons.mp up
    unfold put
    split
    · next below =>
      refine rising_cons.mpr ⟨fun c mem => ?_, up⟩
      rcases List.mem_cons.mp mem with rfl | later
      · exact below
      · exact below.trans (above c later)
    · next notBelow =>
      split
      · next same =>
        subst same
        exact rising_cons.mpr ⟨above, risen⟩
      · next different =>
        refine rising_cons.mpr ⟨fun c mem => ?_, ih risen⟩
        rcases mem_put mem with rfl | old
        · show k < n; omega
        · exact above c old

/-- In a rising table a record stands alone under its number. -/
theorem find_of_mem {t : Table α} {n : Nat} {x : α} (up : rising t = true) (mem : (n, x) ∈ t) : find t n = some x := by
  induction t with
  | nil => cases mem
  | cons d rest ih =>
    obtain ⟨k, v⟩ := d
    obtain ⟨above, risen⟩ := rising_cons.mp up
    rw [find_cons]
    rcases List.mem_cons.mp mem with first | later
    · cases first
      exact if_pos rfl
    · have : k < n := above _ later
      rw [if_neg (by omega)]
      exact ih risen later

theorem find_isSome_iff {t : Table α} {n : Nat} : (find t n).isSome = true ↔ n ∈ t.map Prod.fst := by
  induction t with
  | nil => simp
  | cons d rest ih =>
    obtain ⟨k, v⟩ := d
    rw [find_cons, List.map_cons, List.mem_cons, ← ih]
    split
    · next same => simp [same]
    · next different => simp [different]

end Table

/-! ## The invariants of the core -/

namespace Core

/-- The total of the holds of an account's jobs. -/
def holds (jobs : Table JobCore) (p : Nat) : Nat := (jobs.map fun c => if c.2.owner = p then c.2.hold else 0).sum

def PointsBalance (c : Core) : Prop := ∀ x ∈ c.jobs, x.2.charged = x.2.drawn + x.2.arrears

/-- The number of windows bound. -/
def windows (c : Core) : Nat := fourIndices.countP fun i => (c.streams i).window.isSome

def WipeReserve (c : Core) : Prop := c.wipe.length + c.windows ≤ Config.wipeSize

/-- Numbers rise, and every job stands under its own (R35). -/
def InOrder (c : Core) : Prop := Table.rising c.jobs = true ∧ ∀ x ∈ c.jobs, x.1 = x.2.number

structure MoneySound (c : Core) : Prop where
  positions : Table.rising c.accounts = true
  inOrder : c.InOrder
  owners : ∀ x ∈ c.jobs, x.2.owner ∈ c.accounts.map Prod.fst
  balances : ∀ x ∈ c.accounts, x.2 ≤ Config.maxMoney
  holds : ∀ x ∈ c.accounts, Core.holds c.jobs x.1 ≤ x.2

structure BindingsMatch (c : Core) : Prop where
  inOrder : c.InOrder
  jobs : ∀ n j i, Table.find c.jobs n = some j → j.stream = some i →
    (c.streams i).job = some n ∧ (c.streams i).kind = some j.kind.streamKind ∧ j.kind.usesStore = true ∧ j.closing = false
  streams : ∀ i n, (c.streams i).job = some n → ∃ j, Table.find c.jobs n = some j ∧ j.stream = some i
  bound : ∀ i, (c.streams i).bound = (c.streams i).kind.isSome ∧ (c.streams i).bound = (c.streams i).job.isSome ∧
    (c.streams i).bound = (c.streams i).window.isSome

/-- Each invariant passes from one core to the other. -/
structure Keeps (c d : Core) : Prop where
  points : c.PointsBalance → d.PointsBalance
  wipe : c.WipeReserve → d.WipeReserve
  money : c.MoneySound → d.MoneySound
  bindings : c.BindingsMatch → d.BindingsMatch

theorem Keeps.refl (c : Core) : c.Keeps c := ⟨id, id, id, id⟩

theorem Keeps.trans {c d e : Core} (first : c.Keeps d) (second : d.Keeps e) : c.Keeps e :=
  ⟨second.points ∘ first.points, second.wipe ∘ first.wipe, second.money ∘ first.money, second.bindings ∘ first.bindings⟩

end Core

namespace State

variable {s t u : State}

theorem totalHolds_eq (s : State) (p : Nat) : s.totalHolds p = Core.holds s.core.jobs p := by
  unfold totalHolds jobsOf jobList core Core.holds
  induction s.jobs.jobs with
  | nil => rfl
  | cons c rest ih =>
    simp only [List.map_cons, List.sum_cons, List.filter_cons] at ih ⊢
    rw [← ih]
    by_cases own : c.2.owner = p <;> simp [own, Job.core]

theorem account_isSome_iff (s : State) (p : Nat) : (s.account p).isSome = true ↔ p ∈ s.core.accounts.map Prod.fst := by
  rw [account, Table.find_isSome_iff, core, List.map_map]
  rfl

theorem pointsBalance_iff (s : State) : s.jobs.PointsBalance ↔ s.core.PointsBalance := by
  simp only [JobTable.PointsBalance, Core.PointsBalance, core, List.forall_mem_map]
  rfl

theorem boundWindows_eq (s : State) : boundWindows s.streams = s.core.windows := by
  rw [boundWindows, Core.windows, show s.streams.toList = fourIndices.map s.stream from rfl, List.countP_map]
  rfl

theorem wipeReserve_iff (s : State) : s.WipeReserve ↔ s.core.WipeReserve := by
  rw [WipeReserve, Core.WipeReserve, boundWindows_eq]
  rfl

theorem inOrder_iff (s : State) : s.jobs.InOrder ↔ s.core.InOrder := by
  have rising : Table.rising s.core.jobs = Table.rising s.jobs.jobs := Table.rising_mapVal Job.core s.jobs.jobs
  rw [JobTable.InOrder, Core.InOrder, rising]
  simp only [core, List.forall_mem_map]
  rfl

theorem moneySound_iff (s : State) : s.MoneySound ↔ s.core.MoneySound := by
  have rising : Table.rising s.core.accounts = Table.rising s.accounts := Table.rising_mapVal Account.balance s.accounts
  have balances : (∀ x ∈ s.core.accounts, x.2 ≤ Config.maxMoney) ↔ ∀ c ∈ s.accounts, c.2.balance ≤ Config.maxMoney := by
    simp only [core, List.forall_mem_map]
  have holds : (∀ x ∈ s.core.accounts, Core.holds s.core.jobs x.1 ≤ x.2) ↔ s.HoldsCovered := by
    simp only [HoldsCovered, totalHolds_eq]
    simp only [core, List.forall_mem_map]
  have owners : (∀ x ∈ s.core.jobs, x.2.owner ∈ s.core.accounts.map Prod.fst) ↔
      ∀ c ∈ s.jobs.jobs, (s.account c.2.owner).isSome = true := by
    simp only [account_isSome_iff]
    simp only [core, List.forall_mem_map]
    rfl
  refine ⟨fun h => ⟨rising ▸ h.positions, s.inOrder_iff.mp h.jobs, owners.mpr h.owners, balances.mpr h.balances,
      holds.mpr h.holds⟩,
    fun h => ⟨rising ▸ h.positions, s.inOrder_iff.mpr h.inOrder, owners.mp h.owners, balances.mp h.balances, holds.mp h.holds⟩⟩

theorem find_core (s : State) (n : Nat) : Table.find s.core.jobs n = (s.job n).map Job.core :=
  Table.find_mapVal Job.core s.jobs.jobs n

theorem closing_core_eq_false (j : Job) : j.core.closing = false ↔ j.state ≠ .closing := by
  simp [Job.core]

theorem bindingsMatch_iff (s : State) : s.BindingsMatch ↔ s.core.BindingsMatch := by
  refine ⟨fun h => ⟨s.inOrder_iff.mp h.inOrder, fun n j i found bound => ?_, fun i n named => ?_, h.bound⟩,
    fun h => ⟨s.inOrder_iff.mpr h.inOrder, fun n j i found bound => ?_, fun i n named => ?_, h.bound⟩⟩
  · rw [find_core, Option.map_eq_some_iff] at found
    obtain ⟨j, present, rfl⟩ := found
    obtain ⟨names, kind, uses, open_⟩ := h.jobs n j i present bound
    exact ⟨names, kind, uses, (closing_core_eq_false j).mpr open_⟩
  · obtain ⟨j, present, bound⟩ := h.streams i n named
    exact ⟨j.core, by rw [find_core, present]; rfl, bound⟩
  · obtain ⟨names, kind, uses, open_⟩ := h.jobs n j.core i (by rw [find_core, found]; rfl) bound
    exact ⟨names, kind, uses, (closing_core_eq_false j).mp open_⟩
  · obtain ⟨c, present, bound⟩ := h.streams i n named
    rw [find_core, Option.map_eq_some_iff] at present
    obtain ⟨j, present, rfl⟩ := present
    exact ⟨j, present, bound⟩

theorem inRange_iff (s : State) : s.InRange ↔ s.Ordered ∧ s.core.PointsBalance ∧ s.core.WipeReserve := by
  rw [← pointsBalance_iff, ← wipeReserve_iff]
  exact ⟨fun h => ⟨⟨h.memory, h.queue, h.settings, h.notices, h.lists, h.colour⟩, h.points, h.wipe⟩,
    fun ⟨⟨memory, queue, settings, notices, lists, colour⟩, points, wipe⟩ =>
      ⟨memory, queue, settings, notices, points, wipe, lists, colour⟩⟩

/-- Every invariant passes from one state to the other. -/
structure Keeps (s t : State) : Prop where
  ordered : s.Ordered → t.Ordered
  core : s.core.Keeps t.core

theorem Keeps.refl (s : State) : s.Keeps s := ⟨id, .refl _⟩

theorem Keeps.trans (first : s.Keeps t) (second : t.Keeps u) : s.Keeps u :=
  ⟨second.ordered ∘ first.ordered, first.core.trans second.core⟩

theorem Steady.keeps (steady : s.Steady t) : s.Keeps t := ⟨steady.ordered, steady.core ▸ .refl _⟩

theorem Keeps.inRange (keeps : s.Keeps t) (range : s.InRange) : t.InRange := by
  obtain ⟨ordered, points, wipe⟩ := s.inRange_iff.mp range
  exact t.inRange_iff.mpr ⟨keeps.ordered ordered, keeps.core.points points, keeps.core.wipe wipe⟩

theorem Keeps.moneySound (keeps : s.Keeps t) (sound : s.MoneySound) : t.MoneySound :=
  t.moneySound_iff.mpr (keeps.core.money (s.moneySound_iff.mp sound))

theorem Keeps.bindingsMatch (keeps : s.Keeps t) (matched : s.BindingsMatch) : t.BindingsMatch :=
  t.bindingsMatch_iff.mpr (keeps.core.bindings (s.bindingsMatch_iff.mp matched))

theorem keeps_foldl {α : Type} {f : State → α → State} (each : ∀ (s : State) (a : α), s.Keeps (f s a)) (l : List α) (s : State) :
    s.Keeps (l.foldl f s) := by
  induction l generalizing s with
  | nil => exact .refl s
  | cons a l ih => exact (each s a).trans (ih _)

end State
end Sys2Proof.Machine
end

section
/-! PROOFS. What each operation on a job, an account, a stream or the wipe list keeps of the invariants, said of the core
(R1, R2, R34, R35, R41, R126, R149, R151, R155). -/

namespace Sys2Proof.Machine

/-- The job's record after the draws of a charge (R41). -/
def JobCore.settled (j : JobCore) (charge g d : Nat) : JobCore :=
  { j with hold := j.hold - g, charged := j.charged + charge, drawn := j.drawn + d, arrears := j.arrears + (charge - d) }

namespace Core

variable {c : Core} {n p : Nat} {i : Fin 4} {j : JobCore}

/-! ## Holds -/

theorem holds_cons (x : Nat × JobCore) (rest : Table JobCore) (p : Nat) :
    holds (x :: rest) p = (if x.2.owner = p then x.2.hold else 0) + holds rest p := by
  simp only [holds, List.map_cons, List.sum_cons]

theorem holds_eq_zero {jobs : Table JobCore} (none : ∀ x ∈ jobs, x.2.owner ≠ p) : holds jobs p = 0 := by
  induction jobs with
  | nil => rfl
  | cons x rest ih =>
    rw [holds_cons, if_neg (none x List.mem_cons_self), ih fun y mem => none y (List.mem_cons_of_mem _ mem)]

theorem holds_put_le (jobs : Table JobCore) (n : Nat) (j : JobCore) (p : Nat) :
    holds (Table.put jobs n j) p ≤ holds jobs p + if j.owner = p then j.hold else 0 := by
  induction jobs with
  | nil => rw [Table.put, holds_cons, Nat.add_comm]
  | cons x rest ih =>
    obtain ⟨k, v⟩ := x
    unfold Table.put
    split
    · rw [holds_cons, Nat.add_comm]
    · split
      · simp only [holds_cons]; omega
      · simp only [holds_cons]; omega

theorem holds_drop_le (jobs : Table JobCore) (n p : Nat) : holds (Table.drop jobs n) p ≤ holds jobs p := by
  induction jobs with
  | nil => exact Nat.le_refl _
  | cons x rest ih =>
    unfold Table.drop at ih ⊢
    rw [List.filter_cons]
    split
    · simp only [holds_cons]; omega
    · rw [holds_cons]; omega

/-- A change of a job that raises no hold raises no total. -/
theorem holds_change_le {f : JobCore → JobCore} (owner : ∀ j, (f j).owner = j.owner) (lower : ∀ j, (f j).hold ≤ j.hold)
    (jobs : Table JobCore) (n p : Nat) : holds (Table.change jobs n f) p ≤ holds jobs p := by
  induction jobs with
  | nil => exact Nat.le_refl _
  | cons x rest ih =>
    unfold Table.change at ih ⊢
    rw [List.map_cons, holds_cons, holds_cons]
    refine Nat.add_le_add ?_ ih
    by_cases own : x.1 = n
    · rw [if_pos own, owner]
      split
      · exact lower x.2
      · exact Nat.le_refl _
    · rw [if_neg own]

/-- What leaves the hold of a job leaves the total of its owner (R41). -/
theorem holds_change_drawn {jobs : Table JobCore} {f : JobCore → JobCore} {g : Nat} (found : Table.find jobs n = some j)
    (owner : ∀ j, (f j).owner = j.owner) (lower : ∀ j, (f j).hold = j.hold - g) (part : g ≤ j.hold) :
    holds (Table.change jobs n f) j.owner + g ≤ holds jobs j.owner := by
  induction jobs with
  | nil => cases found
  | cons x rest ih =>
    obtain ⟨k, v⟩ := x
    have tail := holds_change_le owner (fun j => by rw [lower]; exact Nat.sub_le ..) rest n j.owner
    rw [Table.find_cons] at found
    unfold Table.change at ih tail ⊢
    rw [List.map_cons, holds_cons, holds_cons]
    dsimp only at *
    split at found
    · next same =>
      cases found
      rw [if_pos (show k = n from same.symm), if_pos (owner j), if_pos rfl, lower]
      omega
    · next different =>
      rw [if_neg (show ¬k = n from fun same => different same.symm)]
      have later := ih found
      dsimp only
      omega

/-! ## Jobs -/

theorem InOrder.put (order : c.InOrder) (number : j.number = n) : ({ c with jobs := Table.put c.jobs n j } : Core).InOrder :=
  ⟨Table.rising_put n j order.1, fun x mem => by
    rcases Table.mem_put mem with rfl | old
    · exact number.symm
    · exact order.2 x old⟩

theorem InOrder.drop (order : c.InOrder) (n : Nat) : ({ c with jobs := Table.drop c.jobs n } : Core).InOrder :=
  ⟨Table.rising_drop n order.1, fun x mem => order.2 x (Table.mem_drop.mp mem).1⟩

theorem InOrder.change (order : c.InOrder) (n : Nat) {f : JobCore → JobCore} (number : ∀ j, (f j).number = j.number) :
    ({ c with jobs := Table.change c.jobs n f } : Core).InOrder := by
  refine ⟨Table.rising_change n f order.1, fun x mem => ?_⟩
  obtain ⟨y, old, rfl⟩ := Table.mem_change.mp mem
  split
  · rw [number]; exact order.2 y old
  · exact order.2 y old

theorem PointsBalance.change (balance : c.PointsBalance) (n : Nat) {f : JobCore → JobCore}
    (points : ∀ j, j.charged = j.drawn + j.arrears → (f j).charged = (f j).drawn + (f j).arrears) :
    ({ c with jobs := Table.change c.jobs n f } : Core).PointsBalance := by
  intro x mem
  obtain ⟨y, old, rfl⟩ := Table.mem_change.mp mem
  have before := balance y old
  split
  · exact points y.2 before
  · exact before

/-- Owners stay present when jobs change. -/
theorem owners_change {f : JobCore → JobCore} (owners : ∀ x ∈ c.jobs, x.2.owner ∈ c.accounts.map Prod.fst)
    (owner : ∀ j, (f j).owner = j.owner) : ∀ x ∈ Table.change c.jobs n f, x.2.owner ∈ c.accounts.map Prod.fst := by
  intro x mem
  obtain ⟨y, old, rfl⟩ := Table.mem_change.mp mem
  split
  · rw [owner]; exact owners y old
  · exact owners y old

/-- A fresh job, unbound, with a hold that its owner's balance covers (R35, R39, R40). -/
theorem keeps_putJob (number : j.number = n) (fresh : Table.find c.jobs n = none) (unbound : j.stream = none)
    (points : j.charged = j.drawn + j.arrears)
    (covered : c.MoneySound → ∃ b, (j.owner, b) ∈ c.accounts ∧ holds c.jobs j.owner + j.hold ≤ b) :
    c.Keeps { c with jobs := Table.put c.jobs n j } where
  points balance x mem := by
    rcases Table.mem_put mem with rfl | old
    · exact points
    · exact balance x old
  wipe := id
  money sound := by
    obtain ⟨b, owned, enough⟩ := covered sound
    refine ⟨sound.positions, sound.inOrder.put number, fun x mem => ?_, sound.balances, fun x mem => ?_⟩
    · rcases Table.mem_put mem with rfl | old
      · exact List.mem_map_of_mem (f := Prod.fst) owned
      · exact sound.owners x old
    · have total := holds_put_le c.jobs n j x.1
      have old := sound.holds x mem
      by_cases own : j.owner = x.1
      · have alone : (x.1, b) ∈ c.accounts := own ▸ owned
        have found := (Table.find_of_mem sound.positions alone).symm.trans (Table.find_of_mem sound.positions mem)
        rw [if_pos own] at total
        rw [own, Option.some.inj found] at enough
        exact total.trans enough
      · rw [if_neg own] at total
        exact total.trans old
  bindings matched := by
    refine ⟨matched.inOrder.put number, fun m x i found bound => ?_, fun i m named => ?_, matched.bound⟩
    · rw [Table.find_put] at found
      split at found
      · cases found
        rw [unbound] at bound
        cases bound
      · exact matched.jobs m x i found bound
    · obtain ⟨x, present, bound⟩ := matched.streams i m named
      refine ⟨x, ?_, bound⟩
      rw [Table.find_put, if_neg]
      · exact present
      · rintro rfl
        rw [fresh] at present
        cases present

/-- A job leaves the table with no stream bound to it (R54, R135). -/
theorem keeps_dropJob (unbound : c.BindingsMatch → ∀ j, Table.find c.jobs n = some j → j.stream = none) :
    c.Keeps { c with jobs := Table.drop c.jobs n } where
  points balance x mem := balance x (Table.mem_drop.mp mem).1
  wipe := id
  money sound := ⟨sound.positions, sound.inOrder.drop n, fun x mem => sound.owners x (Table.mem_drop.mp mem).1, sound.balances,
    fun x mem => (holds_drop_le ..).trans (sound.holds x mem)⟩
  bindings matched := by
    refine ⟨matched.inOrder.drop n, fun m x i found bound => ?_, fun i m named => ?_, matched.bound⟩
    · rw [Table.find_drop] at found
      split at found
      · cases found
      · exact matched.jobs m x i found bound
    · obtain ⟨x, present, bound⟩ := matched.streams i m named
      refine ⟨x, ?_, bound⟩
      rw [Table.find_drop, if_neg]
      · exact present
      · rintro rfl
        rw [unbound matched x present] at bound
        cases bound

/-- A change of a job in fields that no stream looks at keeps jobs and streams matched. -/
theorem BindingsMatch.changeJob (matched : c.BindingsMatch) (n : Nat) {f : JobCore → JobCore}
    (number : ∀ j, (f j).number = j.number) (stream : ∀ j, (f j).stream = j.stream) (kind : ∀ j, (f j).kind = j.kind)
    (closing : ∀ j, Table.find c.jobs n = some j → j.stream.isSome = true → (f j).closing = j.closing) :
    ({ c with jobs := Table.change c.jobs n f } : Core).BindingsMatch := by
  refine ⟨matched.inOrder.change n number, fun m x i found bound => ?_, fun i m named => ?_, matched.bound⟩
  · rw [Table.find_change] at found
    split at found
    · next same =>
      subst same
      obtain ⟨y, present, rfl⟩ := Option.map_eq_some_iff.mp found
      rw [stream] at bound
      rw [kind, closing y present (by rw [bound]; rfl)]
      exact matched.jobs m y i present bound
    · exact matched.jobs m x i found bound
  · obtain ⟨x, present, bound⟩ := matched.streams i m named
    rw [Table.find_change]
    split
    · exact ⟨f x, by rw [present]; rfl, by rw [stream]; exact bound⟩
    · exact ⟨x, present, bound⟩

/-- A job becomes CLOSING with no stream bound to it (R51). -/
theorem keeps_closeJob (unbound : c.BindingsMatch → ∀ j, Table.find c.jobs n = some j → j.stream = none) :
    c.Keeps { c with jobs := Table.change c.jobs n fun j => { j with closing := true } } where
  points balance := balance.change n fun _ points => points
  wipe := id
  money sound := ⟨sound.positions, sound.inOrder.change n fun _ => rfl,
    owners_change (f := fun j => { j with closing := true }) sound.owners fun _ => rfl, sound.balances,
    fun x mem => (holds_change_le (f := fun j => { j with closing := true }) (fun _ => rfl) (fun _ => Nat.le_refl _) ..).trans
      (sound.holds x mem)⟩
  bindings matched := matched.changeJob n (fun _ => rfl) (fun _ => rfl) (fun _ => rfl) fun j found bound => by
    rw [unbound matched j found] at bound
    cases bound

/-! ## Money -/

/-- The balance of an account, 0 where none is present. -/
def balanceOf (c : Core) (p : Nat) : Nat := (Table.find c.accounts p).getD 0

/-- Balances fall and stay above the holds. -/
theorem balances_change_le {f : Nat → Nat} (lower : ∀ b, f b ≤ b) (balances : ∀ x ∈ c.accounts, x.2 ≤ Config.maxMoney) :
    ∀ x ∈ Table.change c.accounts p f, x.2 ≤ Config.maxMoney := by
  intro x mem
  obtain ⟨y, old, rfl⟩ := Table.mem_change.mp mem
  split
  · exact (lower y.2).trans (balances y old)
  · exact balances y old

/-- A charge drawn from a job's hold and from its owner's balance, of which the balance gives no more than the available amount
and what left the hold (R41). -/
theorem keeps_settle {charge g d : Nat} (found : c.MoneySound → Table.find c.jobs n = some j) (part : g ≤ j.hold)
    (within : d ≤ charge) (afforded : d ≤ c.balanceOf j.owner - holds c.jobs j.owner + g) :
    c.Keeps { c with jobs := Table.change c.jobs n fun j => j.settled charge g d,
                     accounts := Table.change c.accounts j.owner fun b => b - d } where
  points balance := balance.change n fun j points => by
    simp only [JobCore.settled]
    omega
  wipe := id
  money sound := by
    refine ⟨Table.rising_change j.owner (fun b => b - d) sound.positions, sound.inOrder.change n fun _ => rfl, ?_,
      balances_change_le (fun b => Nat.sub_le b d) sound.balances,
      fun x (mem : x ∈ Table.change c.accounts j.owner fun b => b - d) => ?_⟩
    · rw [Table.fst_change]
      exact owners_change (f := fun j => j.settled charge g d) sound.owners fun _ => rfl
    · obtain ⟨y, old, rfl⟩ := Table.mem_change.mp mem
      have covered := sound.holds y old
      have lower := holds_change_le (f := fun j => j.settled charge g d) (fun _ => rfl) (fun j => Nat.sub_le ..) c.jobs n
      split
      · next own =>
        have drawn := holds_change_drawn (f := fun j => j.settled charge g d) (found sound) (fun _ => rfl) (fun _ => rfl) part
        have balance : c.balanceOf j.owner = y.2 := by
          rw [balanceOf, Table.find_of_mem sound.positions (own ▸ old : (j.owner, y.2) ∈ c.accounts)]
          rfl
        rw [balance] at afforded
        rw [own] at covered
        dsimp only
        rw [own]
        omega
      · exact (lower y.1).trans covered
  bindings matched := by
    have jobs := matched.changeJob n (f := fun j => j.settled charge g d) (fun _ => rfl) (fun _ => rfl) (fun _ => rfl)
      fun _ _ _ => rfl
    exact ⟨jobs.inOrder, jobs.jobs, jobs.streams, jobs.bound⟩

/-- A balance moved within its range and above the holds of its account (R11). -/
theorem keeps_changeBalance {f : Nat → Nat}
    (stays : ∀ b, holds c.jobs p ≤ b → b ≤ Config.maxMoney → (p, b) ∈ c.accounts →
      holds c.jobs p ≤ f b ∧ f b ≤ Config.maxMoney) :
    c.Keeps { c with accounts := Table.change c.accounts p f } where
  points := id
  wipe := id
  money sound := by
    have moved : ∀ x ∈ Table.change c.accounts p f, holds c.jobs x.1 ≤ x.2 ∧ x.2 ≤ Config.maxMoney := by
      intro x mem
      obtain ⟨y, old, rfl⟩ := Table.mem_change.mp mem
      have covered := sound.holds y old
      have range := sound.balances y old
      split
      · next own =>
        subst own
        exact stays y.2 covered range old
      · exact ⟨covered, range⟩
    refine ⟨Table.rising_change p f sound.positions, sound.inOrder, ?_, fun x mem => (moved x mem).2, fun x mem => (moved x mem).1⟩
    rw [Table.fst_change]
    exact sound.owners
  bindings matched := ⟨matched.inOrder, matched.jobs, matched.streams, matched.bound⟩

/-- A new account at a free position, which owns no job (R6). -/
theorem keeps_putAccount (free : Table.find c.accounts p = none) : c.Keeps { c with accounts := Table.put c.accounts p 0 } where
  points := id
  wipe := id
  money sound := by
    have ownsNone : ∀ x ∈ c.jobs, x.2.owner ≠ p := by
      rintro x mem rfl
      have present := Table.find_isSome_iff.mpr (sound.owners x mem)
      rw [free] at present
      cases present
    refine ⟨Table.rising_put p 0 sound.positions, sound.inOrder,
      fun x mem => Table.mem_fst_put _ _ _ _ (sound.owners x mem), fun x mem => ?_, fun x mem => ?_⟩
    · rcases Table.mem_put mem with rfl | old
      · exact Nat.zero_le _
      · exact sound.balances x old
    · rcases Table.mem_put mem with rfl | old
      · exact (holds_eq_zero ownsNone).le
      · exact sound.holds x old
  bindings matched := ⟨matched.inOrder, matched.jobs, matched.streams, matched.bound⟩

/-- An account that owns no job leaves its position (R10). -/
theorem keeps_dropAccount (ownsNone : ∀ x ∈ c.jobs, x.2.owner ≠ p) : c.Keeps { c with accounts := Table.drop c.accounts p } where
  points := id
  wipe := id
  money sound := by
    refine ⟨Table.rising_drop p sound.positions, sound.inOrder, fun x mem => ?_,
      fun x mem => sound.balances x (Table.mem_drop.mp mem).1, fun x mem => sound.holds x (Table.mem_drop.mp mem).1⟩
    obtain ⟨y, present, same⟩ := List.mem_map.mp (sound.owners x mem)
    exact List.mem_map.mpr ⟨y, Table.mem_drop.mpr ⟨present, by rw [same]; exact ownsNone x mem⟩, same⟩
  bindings matched := ⟨matched.inOrder, matched.jobs, matched.streams, matched.bound⟩

/-- The accounts of a factory clear, with no job in the table (R4, R179). -/
theorem keeps_factory (empty : c.jobs = []) : c.Keeps { c with accounts := [(1, 0)] } where
  points := id
  wipe := id
  money sound := by
    have none : ∀ x ∈ c.jobs, False := fun x mem => by rw [empty] at mem; cases mem
    refine ⟨rfl, sound.inOrder, fun x mem => (none x mem).elim, fun x mem => ?_, fun x mem => ?_⟩
    · rw [List.mem_singleton.mp mem]
      exact Nat.zero_le _
    · rw [holds_eq_zero fun y mem => (none y mem).elim]
      exact Nat.zero_le _
  bindings matched := ⟨matched.inOrder, matched.jobs, matched.streams, matched.bound⟩

/-! ## Streams and windows -/

/-- The core of an IDLE stream. -/
def idleStream : StreamCore := { kind := none, job := none, window := none, bound := false }

theorem windows_update {d : Core} {x : StreamCore} (updated : d.streams = Function.update c.streams i x) :
    d.windows + (c.streams i).window.isSome.toNat = c.windows + x.window.isSome.toNat := by
  have count (f : Fin 4 → StreamCore) : (fourIndices.countP fun k => (f k).window.isSome) =
      (f 0).window.isSome.toNat + (f 1).window.isSome.toNat + (f 2).window.isSome.toNat + (f 3).window.isSome.toNat := by
    simp only [fourIndices, List.countP_cons, List.countP_nil, Bool.toNat, Bool.cond_eq_ite]
    omega
  rw [windows, windows, count, count, updated]
  match i with
  | 0 | 1 | 2 | 3 => simp; omega

/-- Streams that look the same but for one that becomes IDLE, its job, where it is present, without it. -/
theorem BindingsMatch.unbind (matched : c.BindingsMatch) (i : Fin 4) (jobs : Table JobCore) (inOrder : jobs.rising = true)
    (numbers : ∀ x ∈ jobs, x.1 = x.2.number)
    (own : ∀ n, (c.streams i).job = some n →
      Table.find jobs n = (Table.find c.jobs n).map fun j => { j with stream := none })
    (other : ∀ n, (c.streams i).job ≠ some n → Table.find jobs n = Table.find c.jobs n) (wipe : List BlockRange) :
    ({ c with jobs := jobs, streams := Function.update c.streams i idleStream, wipe := wipe } : Core).BindingsMatch := by
  refine ⟨⟨inOrder, numbers⟩, fun n j k found bound => ?_, fun k n named => ?_, fun k => ?_⟩
  · have foreign : (c.streams i).job ≠ some n := fun names => by
      rw [own n names] at found
      obtain ⟨y, -, rfl⟩ := Option.map_eq_some_iff.mp found
      cases bound
    rw [other n foreign] at found
    have pair := matched.jobs n j k found bound
    have different : k ≠ i := by
      rintro rfl
      exact foreign pair.1
    dsimp only
    rw [Function.update_of_ne different]
    exact pair
  · dsimp only at named ⊢
    by_cases same : k = i
    · rw [same, Function.update_self] at named
      cases named
    · rw [Function.update_of_ne same] at named
      obtain ⟨j, present, bound⟩ := matched.streams k n named
      refine ⟨j, ?_, bound⟩
      rw [other n]
      · exact present
      · intro names
        obtain ⟨j', present', bound'⟩ := matched.streams i n names
        rw [present] at present'
        cases present'
        rw [bound] at bound'
        exact same (Option.some.inj bound')
  · dsimp only
    by_cases same : k = i
    · rw [same, Function.update_self]
      exact ⟨rfl, rfl, rfl⟩
    · rw [Function.update_of_ne same]
      exact matched.bound k

/-- The core after an unbinding (R127, R155). -/
def unbound (c : Core) (i : Fin 4) : Core :=
  { c with
    jobs := match (c.streams i).job with
      | none => c.jobs
      | some n => Table.change c.jobs n fun j => { j with stream := none }
    streams := Function.update c.streams i idleStream
    wipe := c.wipe ++ ((c.streams i).window.map Window.range).toList }

theorem jobs_unbound (c : Core) (i : Fin 4) :
    (c.unbound i).jobs = c.jobs ∨ ∃ n, (c.streams i).job = some n ∧
      (c.unbound i).jobs = Table.change c.jobs n fun j => { j with stream := none } := by
  unfold unbound
  cases (c.streams i).job with
  | none => exact .inl rfl
  | some n => exact .inr ⟨n, rfl, rfl⟩

theorem find_unbound_own (names : (c.streams i).job = some n) :
    Table.find (c.unbound i).jobs n = (Table.find c.jobs n).map fun j => { j with stream := none } := by
  simp only [unbound, names, Table.find_change, if_pos]

theorem find_unbound_other (other : (c.streams i).job ≠ some n) :
    Table.find (c.unbound i).jobs n = Table.find c.jobs n := by
  rcases c.jobs_unbound i with same | ⟨m, names, changed⟩
  · rw [same]
  · rw [changed, Table.find_change, if_neg]
    rintro rfl
    exact other names

/-- An unbinding puts the window on the wipe list and takes the stream from its job (R126, R127, R155). -/
theorem keeps_unbound (c : Core) (i : Fin 4) : c.Keeps (c.unbound i) where
  points balance := by
    rcases c.jobs_unbound i with same | ⟨n, -, changed⟩
    · rw [PointsBalance, same]; exact balance
    · rw [PointsBalance, changed]
      exact balance.change n (f := fun j => { j with stream := none }) fun _ points => points
  wipe reserve := by
    have count : (c.unbound i).windows + (c.streams i).window.isSome.toNat = c.windows + 0 :=
      windows_update (x := idleStream) rfl
    have listed : (c.unbound i).wipe.length = c.wipe.length + (c.streams i).window.isSome.toNat := by
      rw [unbound, List.length_append]
      cases (c.streams i).window <;> rfl
    rw [WipeReserve] at reserve ⊢
    omega
  money sound := by
    rcases c.jobs_unbound i with same | ⟨n, -, changed⟩
    · refine ⟨sound.positions, ?_, ?_, sound.balances, ?_⟩
      · rw [InOrder, same]; exact sound.inOrder
      · rw [same]; exact sound.owners
      · rw [same]; exact sound.holds
    · refine ⟨sound.positions, ?_, ?_, sound.balances, ?_⟩
      · rw [InOrder, changed]
        exact sound.inOrder.change n (f := fun j => { j with stream := none }) fun _ => rfl
      · rw [changed]
        exact owners_change (f := fun j => { j with stream := none }) sound.owners fun _ => rfl
      · rw [changed]
        exact fun x mem => (holds_change_le (f := fun j => { j with stream := none }) (fun _ => rfl) (fun _ => Nat.le_refl _) ..).trans
          (sound.holds x mem)
  bindings matched := by
    have order : (c.unbound i).InOrder := by
      rcases c.jobs_unbound i with same | ⟨n, -, changed⟩
      · rw [InOrder, same]; exact matched.inOrder
      · rw [InOrder, changed]
        exact matched.inOrder.change n (f := fun j => { j with stream := none }) fun _ => rfl
    exact matched.unbind i _ order.1 order.2 (fun _ => find_unbound_own) (fun _ => find_unbound_other) _

/-- The core after a bind (R151). -/
def bound (c : Core) (i : Fin 4) (n : Nat) (k : StreamKind) (w : Window) : Core :=
  { c with
    jobs := Table.change c.jobs n fun j => { j with stream := some i }
    streams := Function.update c.streams i { kind := some k, job := some n, window := some w, bound := true } }

/-- A bind of an IDLE stream to an unbound job that works on the store, with a place for its window on the wipe list
(R125, R126, R151). -/
theorem keeps_bound {k : StreamKind} {w : Window} (idle : (c.streams i).bound = false)
    (found : c.BindingsMatch → Table.find c.jobs n = some j) (unbound : j.stream = none) (uses : j.kind.usesStore = true)
    (running : j.closing = false) (kind : k = j.kind.streamKind) (reserve : c.wipe.length + c.windows < Config.wipeSize) :
    c.Keeps (c.bound i n k w) where
  points balance := balance.change n fun _ points => points
  wipe _ := by
    have count : (c.bound i n k w).windows + (c.streams i).window.isSome.toNat = c.windows + 1 :=
      windows_update (x := { kind := some k, job := some n, window := some w, bound := true }) rfl
    have listed : (c.bound i n k w).wipe = c.wipe := rfl
    rw [WipeReserve, listed]
    omega
  money sound := ⟨sound.positions, sound.inOrder.change n fun _ => rfl,
    owners_change (f := fun j => { j with stream := some i }) sound.owners fun _ => rfl, sound.balances,
    fun x mem => (holds_change_le (f := fun j => { j with stream := some i }) (fun _ => rfl) (fun _ => Nat.le_refl _) ..).trans
      (sound.holds x mem)⟩
  bindings matched := by
    have present := found matched
    refine ⟨matched.inOrder.change n fun _ => rfl, fun m x l holds names => ?_, fun l m names => ?_, fun l => ?_⟩
    · simp only [bound, Table.find_change] at holds ⊢
      split at holds
      · next same =>
        subst same
        rw [present] at holds
        cases holds
        cases names
        rw [Function.update_self]
        exact ⟨rfl, congrArg some kind, uses, running⟩
      · have pair := matched.jobs m x l holds names
        have different : l ≠ i := by
          rintro rfl
          have busy := (matched.bound l).2.1
          rw [pair.1, idle] at busy
          cases busy
        rw [Function.update_of_ne different]
        exact pair
    · simp only [bound, Table.find_change] at names ⊢
      by_cases same : l = i
      · subst same
        rw [Function.update_self] at names
        obtain rfl := Option.some.inj names
        rw [if_pos rfl, present]
        exact ⟨_, rfl, rfl⟩
      · rw [Function.update_of_ne same] at names
        obtain ⟨x, holds, names'⟩ := matched.streams l m names
        refine ⟨x, ?_, names'⟩
        rw [if_neg]
        · exact holds
        · rintro rfl
          rw [present] at holds
          cases holds
          rw [unbound] at names'
          cases names'
    · dsimp only [bound]
      by_cases same : l = i
      · rw [same, Function.update_self]
        exact ⟨rfl, rfl, rfl⟩
      · rw [Function.update_of_ne same]
        exact matched.bound l

/-- The oldest range leaves the wipe list (R130). -/
theorem keeps_wiped {wipe : List BlockRange} (shorter : wipe.length ≤ c.wipe.length) : c.Keeps { c with wipe := wipe } where
  points := id
  wipe reserve := (Nat.add_le_add_right shorter _).trans reserve
  money sound := ⟨sound.positions, sound.inOrder, sound.owners, sound.balances, sound.holds⟩
  bindings matched := ⟨matched.inOrder, matched.jobs, matched.streams, matched.bound⟩

/-- A supply reset: no job, no bound stream, nothing to wipe (R36, R133, R150). -/
theorem keeps_reset (c : Core) : c.Keeps { c with jobs := [], streams := fun _ => idleStream, wipe := [] } where
  points _ x mem := (List.not_mem_nil mem).elim
  wipe _ := Nat.zero_le _
  money sound := ⟨sound.positions, ⟨rfl, fun x mem => (List.not_mem_nil mem).elim⟩, fun x mem => (List.not_mem_nil mem).elim,
    sound.balances, fun x _ => Nat.zero_le _⟩
  bindings _ := by
    refine ⟨⟨rfl, fun x mem => (List.not_mem_nil mem).elim⟩, fun n j i found => ?_, fun i n named => ?_, fun _ => ⟨rfl, rfl, rfl⟩⟩
    · cases found
    · cases named

end Core
end Sys2Proof.Machine
end

section
/-! PROOFS. Every step keeps ranges, money and bindings (O57, O58, O59): the operations that move jobs, accounts, streams and the wipe
list, then the requests and the events one by one. -/

namespace Sys2Proof.Machine

/-! ## Numbers of jobs and documents (R35, R138) -/

/-- The candidates of the search are pairwise different. -/
theorem nodup_candidates {last k : Nat} (few : k ≤ Config.maxNumber) :
    ((List.range k).map fun x => (last + x) % Config.maxNumber + 1).Nodup := by
  refine List.Nodup.map_on (fun x hx y hy same => ?_) List.nodup_range
  rw [List.mem_range] at hx hy
  simp only [Config.maxNumber] at *
  omega

/-- With fewer numbers taken than candidates, the number found is free and in its range. -/
theorem nextNumber_free {last fuel : Nat} {taken : Nat → Bool} {keys : List Nat} (known : ∀ n, taken n = true → n ∈ keys)
    (few : keys.length ≤ fuel) (range : fuel < Config.maxNumber) :
    taken (nextNumber last fuel taken) = false ∧ 1 ≤ nextNumber last fuel taken ∧
      nextNumber last fuel taken ≤ Config.maxNumber := by
  unfold nextNumber
  cases found : ((List.range (fuel + 1)).map fun k => (last + k) % Config.maxNumber + 1).find? fun n => !taken n with
  | some n =>
    have free := List.find?_some found
    obtain ⟨k, -, rfl⟩ := List.mem_map.mp (List.mem_of_find?_eq_some found)
    have below : (last + k) % Config.maxNumber < Config.maxNumber := Nat.mod_lt _ (by decide)
    exact ⟨by simpa using free, by simp, below⟩
  | none =>
    exfalso
    have all := List.find?_eq_none.mp found
    have inside : ((List.range (fuel + 1)).map fun k => (last + k) % Config.maxNumber + 1) ⊆ keys := fun n mem =>
      known n (by simpa using all n mem)
    have length := ((nodup_candidates range).subperm inside).length_le
    rw [List.length_map, List.length_range] at length
    omega

theorem firstRefusal_eq_none {rows : List (Bool × Status)} : firstRefusal rows = none ↔ ∀ x ∈ rows, x.1 = false := by
  induction rows with
  | nil => simp [firstRefusal]
  | cons x rest ih =>
    obtain ⟨b, st⟩ := x
    cases b <;> simp [firstRefusal, ih]

namespace State

variable {s t : State}

theorem job_isSome_iff (s : State) (n : Nat) : (s.job n).isSome = true ↔ n ∈ s.jobs.jobs.map Prod.fst :=
  Table.find_isSome_iff

theorem nextJobNumber_free (few : s.jobs.jobs.length < Config.maxJobs) :
    s.job s.nextJobNumber = none ∧ 1 ≤ s.nextJobNumber ∧ s.nextJobNumber ≤ Config.maxNumber := by
  have range : s.jobs.jobs.length < Config.maxNumber := few.trans (by decide)
  have free := nextNumber_free (last := s.jobs.lastNumber) (taken := fun n => (s.job n).isSome)
    (fun n taken => (s.job_isSome_iff n).mp taken) (List.length_map ..).le range
  exact ⟨Option.not_isSome_iff_eq_none.mp (Bool.eq_false_iff.mp free.1), free.2⟩

/-! ## The core under a change of one record -/

theorem core_changeJob (s : State) (n : Nat) {f : Job → Job} {g : JobCore → JobCore} (sees : ∀ j, (f j).core = g j.core) :
    (s.changeJob n f).core = { s.core with jobs := Table.change s.core.jobs n g } :=
  congrArg (fun x => { s.core with jobs := x }) (Table.mapVal_change sees s.jobs.jobs n)

theorem core_changeAccount (s : State) (p : Nat) {f : Account → Account} {g : Nat → Nat} (sees : ∀ a, (f a).balance = g a.balance) :
    (s.changeAccount p f).core = { s.core with accounts := Table.change s.core.accounts p g } :=
  congrArg (fun x => { s.core with accounts := x }) (Table.mapVal_change (f := Account.balance) sees s.accounts p)

/-! ## Jobs -/

theorem keeps_addJob {j : Job} (fresh : s.job j.number = none) (unbound : j.stream = none)
    (points : j.pointsCharged = j.pointsDrawn + j.pointsArrears)
    (covered : s.MoneySound → ∃ a, (j.owner, a) ∈ s.accounts ∧ s.totalHolds j.owner + j.holdRemaining ≤ a.balance) :
    s.Keeps (s.addJob j) where
  ordered := id
  core := by
    have core : (s.addJob j).core = { s.core with jobs := Table.put s.core.jobs j.number j.core } := by
      have jobs := Table.mapVal_put Job.core s.jobs.jobs j.number j
      unfold State.core
      exact congrArg (fun x => { s.core with jobs := x }) jobs
    rw [core]
    refine Core.keeps_putJob rfl ?_ unbound points fun sound => ?_
    · rw [find_core, fresh]; rfl
    · obtain ⟨a, present, enough⟩ := covered (s.moneySound_iff.mpr sound)
      rw [totalHolds_eq] at enough
      exact ⟨a.balance, List.mem_map_of_mem (f := fun c => (c.1, c.2.balance)) present, enough⟩

/-- What the core's guards ask: in a matched state, the job of a number has no stream. -/
def JobUnbound (s : State) (n : Nat) : Prop := s.BindingsMatch → ∀ j, s.job n = some j → j.stream = none

theorem JobUnbound.core {n : Nat} (unbound : s.JobUnbound n) (matched : s.core.BindingsMatch) (j : JobCore)
    (found : Table.find s.core.jobs n = some j) : j.stream = none := by
  rw [find_core] at found
  obtain ⟨x, present, rfl⟩ := Option.map_eq_some_iff.mp found
  exact unbound (s.bindingsMatch_iff.mpr matched) x present

/-- A steady operation changes no job's bound stream. -/
theorem JobUnbound.steady {n : Nat} (unbound : s.JobUnbound n) (steady : s.Steady t) : t.JobUnbound n := by
  intro matched j present
  have before : s.core.BindingsMatch := steady.core ▸ t.bindingsMatch_iff.mp matched
  have found : Table.find s.core.jobs n = some j.core := by
    rw [← steady.core, find_core, present]; rfl
  exact unbound.core before j.core found

/-- A CLOSING job has no stream (R49, R149). -/
theorem jobUnbound_of_closing {n : Nat} {j : Job} (present : s.job n = some j) (closing : j.state = .closing) :
    s.JobUnbound n := by
  intro matched j' present'
  rw [present] at present'
  cases present'
  cases bound : j.stream with
  | none => rfl
  | some i => exact absurd closing (matched.jobs n j i present bound).2.2.2

/-- A job found stands under its own number. -/
theorem number_of_job {n : Nat} {j : Job} (order : s.jobs.InOrder) (present : s.job n = some j) : j.number = n :=
  (order.2 _ (Table.find_mem present)).symm

theorem keeps_dropJob {j : Job} (e : EndMark) (o : Option DocOutcome) (unbound : s.JobUnbound j.number) :
    s.Keeps (s.dropJob j e o) := by
  have dropped : s.Keeps (s.setJobs { s.jobs with jobs := Table.drop s.jobs.jobs j.number }) := by
    refine ⟨id, ?_⟩
    have core : (s.setJobs { s.jobs with jobs := Table.drop s.jobs.jobs j.number }).core =
        { s.core with jobs := Table.drop s.core.jobs j.number } :=
      congrArg (fun x => { s.core with jobs := x }) (Table.mapVal_drop Job.core s.jobs.jobs j.number)
    rw [core]
    exact Core.keeps_dropJob unbound.core
  exact (dropped.trans (steady_post ..).keeps).trans (steady_reevaluateIf ..).keeps

/-- A job becomes CLOSING (R51). -/
theorem keeps_toClosing {n : Nat} (unbound : s.JobUnbound n) :
    s.Keeps (s.changeJob n fun j => { j with state := .closing, drain := some 0 }) := by
  refine ⟨id, ?_⟩
  rw [s.core_changeJob n (f := fun j => { j with state := .closing, drain := some 0 })
    (g := fun j => { j with closing := true }) fun _ => rfl]
  exact Core.keeps_closeJob unbound.core

theorem keeps_removeJob {j : Job} (e : EndMark) (unbound : s.JobUnbound j.number) : s.Keeps (s.removeJob j e) := by
  unfold removeJob
  split
  · exact (s.steady_releaseDocument j).keeps.trans (keeps_dropJob _ _ (unbound.steady (s.steady_releaseDocument j)))
  · exact keeps_dropJob _ _ unbound

theorem keeps_removeScanJob {j : Job} (unbound : s.JobUnbound j.number) : s.Keeps (s.removeScanJob j) :=
  (s.steady_settleScanDocument j).keeps.trans (keeps_dropJob _ _ (unbound.steady (s.steady_settleScanDocument j)))

theorem keeps_expireDrain (s : State) (n : Nat) : s.Keeps (s.expireDrain n) := by
  unfold expireDrain
  split
  · exact .refl s
  · next j present =>
    split
    · next closing =>
      refine keeps_removeJob _ fun matched => ?_
      rw [number_of_job matched.inOrder present]
      exact jobUnbound_of_closing present closing matched
    · exact .refl s

theorem keeps_takeJobEnd (s : State) (tag : Nat) : s.Keeps (s.takeJobEnd tag) := by
  unfold takeJobEnd
  split
  · exact .refl s
  · split
    · exact .refl s
    · next j present =>
      split
      · exact .refl s
      · split
        · next closing =>
          refine keeps_removeJob _ fun matched => ?_
          rw [number_of_job matched.inOrder present]
          exact jobUnbound_of_closing present closing matched
        · exact (s.steady_changeJob tag (f := fun j => { j with engineEnded := true }) fun _ => rfl).keeps

/-! ## The close of a job (R49 to R51) -/

theorem core_unbind (s : State) (i : Fin 4) : (s.unbind i).core = s.core.unbound i := by
  have streams : (fun k => ((s.unbind i).stream k).core) = Function.update s.core.streams i Core.idleStream := by
    funext k
    by_cases own : k = i
    · rw [own, stream_unbind_same, Function.update_self]; rfl
    · rw [stream_unbind_other own, Function.update_of_ne own]; rfl
  have wipe : (s.unbind i).pool.wipe = s.pool.wipe ++ ((s.stream i).window.map Window.range).toList := by rw [unbind_pool]
  have accounts : (s.unbind i).accounts = s.accounts := (unbind_images i).accounts
  have jobs : ((s.unbind i).jobs.jobs.map fun c => (c.1, c.2.core)) = (s.core.unbound i).jobs := by
    have names : (s.core.streams i).job = (s.stream i).job := rfl
    cases bound : (s.stream i).job with
    | none =>
      rw [unbind_of_unbound bound, Core.unbound, names, bound]
      rfl
    | some n =>
      rw [unbind_of_bound bound, Core.unbound, names, bound]
      exact Table.mapVal_change (f := Job.core) (g := fun j => { j with stream := none })
        (h := fun j => { j with stream := none }) (fun _ => rfl) s.jobs.jobs n
  rw [core, streams, wipe, accounts, jobs]
  rfl

theorem keeps_unbind (s : State) (i : Fin 4) : s.Keeps (s.unbind i) := by
  refine ⟨fun ⟨memory, queue, settings, notices, lists, colour⟩ => ?_, s.core_unbind i ▸ Core.keeps_unbound ..⟩
  have same := unbind_images (s := s) i
  refine ⟨?_, ?_, same.settings ▸ settings, by rw [unbind_link]; exact notices, same.cart ▸ lists, same.cart ▸ colour⟩
  · rw [MemoryCanonical, unbind_pool]; exact memory
  · rw [QueueInRange, same.queue]; exact queue

theorem keeps_unbindJob (s : State) (j : Job) : s.Keeps (s.unbindJob j) := by
  unfold unbindJob
  split
  · exact .refl s
  · exact s.keeps_unbind _

/-- Once its stream is unbound, a job of the table has none. -/
theorem jobUnbound_unbindJob {n : Nat} {j : Job} (present : s.job n = some j) : (s.unbindJob j).JobUnbound n := by
  unfold unbindJob
  intro matched j' present'
  cases bound : j.stream with
  | none =>
    simp only [bound] at present'
    rw [present] at present'
    cases present'
    exact bound
  | some i =>
    simp only [bound] at present' matched
    cases stream' : j'.stream with
    | none => rfl
    | some k =>
      have pair := matched.jobs n j' k present' stream'
      by_cases names : (s.stream i).job = some n
      · rw [job_unbind_own names present] at present'
        cases present'
        cases stream'
      · rw [job_unbind_other names, present] at present'
        cases present'
        rw [bound] at stream'
        cases stream'
        rw [stream_unbind_same] at pair
        cases pair.1

theorem job_unbindJob {n : Nat} {j : Job} (present : s.job n = some j) :
    ∃ x, (s.unbindJob j).job n = some x ∧ x.number = j.number := by
  unfold unbindJob
  split
  · exact ⟨j, present, rfl⟩
  · next i _ =>
    by_cases names : (s.stream i).job = some n
    · exact ⟨_, job_unbind_own names present, rfl⟩
    · exact ⟨j, by rw [job_unbind_other names, present], rfl⟩

theorem keeps_closeJob {n : Nat} {j : Job} (present : s.job n = some j) : s.Keeps (s.closeJob j) := by
  have unbound : (s.unbindJob j).JobUnbound j.number := by
    intro matched
    obtain ⟨x, found, number⟩ := job_unbindJob present
    rw [← number, number_of_job matched.inOrder found]
    exact jobUnbound_unbindJob present matched
  refine (s.keeps_unbindJob j).trans ?_
  show (s.unbindJob j).Keeps ((s.unbindJob j).closeKind { j with stream := none })
  unfold closeKind
  split
  · exact keeps_removeScanJob unbound
  · split
    · exact keeps_removeJob _ unbound
    · exact keeps_toClosing unbound

/-! ## Money (R11, R41) -/

theorem balance_eq (s : State) (p : Nat) : ((s.account p).map (·.balance)).getD 0 = s.core.balanceOf p := by
  rw [Core.balanceOf]
  exact congrArg (·.getD 0) (Table.find_mapVal Account.balance s.accounts p).symm

theorem available_eq (s : State) (p : Nat) : s.available p = s.core.balanceOf p - Core.holds s.core.jobs p := by
  rw [available, balance_eq, totalHolds_eq]

theorem keeps_settleMoney {n : Nat} {j : Job} (present : s.job n = some j) (c : Nat) (k : Counts) :
    s.Keeps (s.settleMoney j c k) := by
  generalize draws : drawOf c j.holdRemaining (s.available j.owner) = d
  have hold : d.hold = min c j.holdRemaining := by rw [← draws]; rfl
  have balance : d.balance = min c (s.available j.owner + d.hold) := by rw [← draws]; rfl
  have arrears : d.arrears = c - d.balance := by rw [← draws]; rfl
  have settled : s.Keeps ((s.changeJob j.number fun j => (j.drawn c d).counted k).changeAccount j.owner fun a =>
      { a.drawn d with counters := a.counters.addAll k.mono k.colour k.pages c }) := by
    refine ⟨id, ?_⟩
    rw [core_changeAccount _ _ (g := fun b => b - d.balance) fun _ => rfl,
      core_changeJob _ _ (f := fun j => (j.drawn c d).counted k) (g := fun j => j.settled c d.hold d.balance)
        fun j => by simp only [Job.core, Job.drawn, Job.counted, JobCore.settled, arrears]]
    refine Core.keeps_settle (j := j.core) (fun sound => ?_) ?_ ?_ ?_
    · rw [number_of_job (s.inOrder_iff.mpr sound.inOrder) present, find_core, present]
      rfl
    · rw [hold]; exact Nat.min_le_right ..
    · rw [balance]; exact Nat.min_le_left ..
    · rw [show j.core.owner = j.owner from rfl, ← available_eq, balance]; exact Nat.min_le_right ..
  unfold settleMoney
  rw [draws]
  exact settled.trans (steady_addMeters ..).keeps

theorem keeps_settleSheet {n : Nat} {j : Job} (present : s.job n = some j) (r : ChargeResult) : s.Keeps (s.settleSheet j r) :=
  (((keeps_settleMoney present ..).trans (steady_noteColour ..).keeps).trans (steady_sheetState ..).keeps).trans
    (steady_reevaluateIf ..).keeps

theorem keeps_settlePage {n : Nat} {j : Job} (present : s.job n = some j) (c : Nat) : s.Keeps (s.settlePage j c) := by
  unfold settlePage
  split
  · exact (keeps_settleMoney present ..).trans (steady_reevaluateIf ..).keeps
  · exact (steady_settleHouse ..).keeps

theorem sheetJob_present {tag : Nat} {j : Job} (found : s.sheetJob tag = some j) : s.job tag = some j := by
  unfold sheetJob at found
  split at found
  · cases found
  · exact (Option.filter_eq_some_iff.mp found).1

theorem keeps_takeSheet (s : State) (r : SheetRecord) : s.Keeps (s.takeSheet r) := by
  unfold takeSheet
  split
  · exact ((steady_settleHouse ..).trans (steady_postSheet ..)).keeps
  · next j found => exact (keeps_settleSheet (sheetJob_present found) _).trans (steady_postSheet ..).keeps

theorem keeps_sheetTaken (s : State) : s.Keeps s.sheetTaken := by
  unfold sheetTaken
  split
  · exact (keeps_takeSheet ..).trans (steady_endTake _).keeps
  · exact .refl s

theorem keeps_jobEndTaken (s : State) : s.Keeps s.jobEndTaken := by
  unfold jobEndTaken
  split
  · exact (keeps_takeJobEnd ..).trans (steady_endTake _).keeps
  · exact .refl s

/-- A page's last band, but for its charge: the stream and its document count one page more (R166). -/
def pageCounted (s : State) (i : Fin 4) : State :=
  let t := s.changeStream i fun st => { st with pages := satAdd Config.maxNumber st.pages 1 }
  match (s.stream i).document with
  | none => t
  | some n => t.changeDocument n fun d => { d with pages := satAdd Config.maxNumber d.pages 1 }

theorem steady_pageCounted (s : State) (i : Fin 4) : s.Steady (s.pageCounted i) := by
  have counted : s.Steady (s.changeStream i fun st => { st with pages := satAdd Config.maxNumber st.pages 1 }) :=
    steady_changeStream rfl
  unfold pageCounted
  dsimp only
  split
  · exact counted
  · exact counted.trans (steady_changeDocument ..)

@[simp] theorem pageCounted_jobs (s : State) (i : Fin 4) : (s.pageCounted i).jobs = s.jobs := by
  unfold pageCounted
  dsimp only
  split <;> rfl

@[simp] theorem pageCounted_rates (s : State) (i : Fin 4) : (s.pageCounted i).rates = s.rates := by
  unfold pageCounted
  dsimp only
  split <;> rfl

theorem pageSent_eq (s : State) (i : Fin 4) (size : Nat) :
    s.pageSent i size =
      match (s.stream i).job.bind (s.pageCounted i).job with
      | none => s.pageCounted i
      | some j => (s.pageCounted i).settlePage j ((s.pageCounted i).pricePage size) := by
  unfold pageSent pageCounted
  rfl

/-- The page is charged to the stream's job (R31, R166). -/
theorem keeps_pageSent (s : State) (i : Fin 4) (size : Nat) : s.Keeps (s.pageSent i size) := by
  refine (s.steady_pageCounted i).keeps.trans ?_
  rw [pageSent_eq]
  split
  · exact .refl _
  · next j found =>
    obtain ⟨n, -, present⟩ := Option.bind_eq_some_iff.mp found
    exact keeps_settlePage present _

theorem keeps_imgSent (s : State) (i : Fin 4) (b : Bool) (h : BandHeader) : s.Keeps (s.imgSent i b h) := by
  have sent := ((s.steady_emptyHalf i b).trans (steady_bandSent _ i)).keeps
  unfold imgSent
  dsimp only
  refine sent.trans ?_
  generalize (s.emptyHalf i b).bandSent i = t
  have paged : t.Keeps (if flagLastOfPage h.flags then t.pageSent i h.sizeClass else t) := by
    split
    · exact keeps_pageSent ..
    · exact .refl t
  generalize (if flagLastOfPage h.flags then t.pageSent i h.sizeClass else t) = u at paged ⊢
  refine paged.trans ?_
  split
  · next last =>
    have running : ((u.markScanComplete i).stream i).holdOrFlow = true := by
      have same : (u.markScanComplete i).stream i = u.stream i := by unfold markScanComplete; split <;> rfl
      rw [same]; exact last.2
    exact ((u.steady_markScanComplete i).trans (steady_enterDone running)).keeps
  · exact .refl u

theorem keeps_sendCompleted (s : State) (k : StreamKind) {sent : State → Fin 4 → Bool → BandHeader → State}
    (keeps : ∀ (s : State) i b h, s.Keeps (sent s i b h)) : s.Keeps (s.sendCompleted k sent) := by
  unfold sendCompleted
  split
  · exact .refl s
  · split
    · exact .refl s
    · exact keeps ..

/-- The oldest range is zero and leaves the wipe list (R130). -/
theorem keeps_rangeWiped (s : State) : s.Keeps s.rangeWiped := by
  unfold rangeWiped
  split
  · next r rest _ wipe =>
    have wiped : s.Keeps (s.setPool { s.pool with mem := s.pool.mem.zeroBlocks r, wipe := rest, fill := none }) :=
      ⟨fun ⟨memory, others⟩ => ⟨Memory.wf_zeroBlocks memory r, others⟩,
        Core.keeps_wiped (c := s.core) (wipe := rest) (by rw [core, wipe]; exact Nat.le_succ _)⟩
    dsimp only
    split
    · exact wiped.trans (steady_post ..).keeps
    · exact wiped
  · exact .refl s

end State
end Sys2Proof.Machine
end

section
/-! PROOFS. Every step keeps ranges, money and bindings (O57, O58, O59): the requests one by one, the resets, and the walk through the
commands. -/

namespace Sys2Proof.Machine

theorem Account.balance_pinFailed (a : Account) : a.pinFailed.balance = a.balance := by
  unfold pinFailed
  split <;> rfl

theorem Stream.movedTo_flowing (st : Stream) : st.MovedTo st.flowing := rfl
theorem Stream.movedTo_holding (st : Stream) : st.MovedTo st.holding := rfl

namespace State

variable {s : State}

/-! ## The checks shared by requests -/

theorem keeps_withParsed {α : Type} (parsed : Option α) {serve : α → Served} (keeps : ∀ r, s.Keeps (serve r).1) :
    s.Keeps (withParsed parsed s serve).1 := by
  cases parsed with
  | none => exact .refl s
  | some r => exact keeps r

theorem keeps_asAdmin {serve : State → Served} (keeps : s.touchSession.Keeps (serve s.touchSession).1) :
    s.Keeps (asAdmin s serve).1 := by
  unfold asAdmin
  split
  · exact s.steady_touchSession.keeps.trans keeps
  · exact .refl s

theorem keeps_asSession {serve : Session → State → Served}
    (keeps : ∀ se, s.touchSession.Keeps (serve se s.touchSession).1) : s.Keeps (asSession s serve).1 := by
  unfold asSession
  split
  · exact .refl s
  · exact s.steady_touchSession.keeps.trans (keeps _)

/-- In a sound state a user found is the account at its position. -/
theorem account_of_findUser {user p : Nat} {a : Account} (positions : Table.rising s.accounts = true)
    (found : s.findUser user = some (p, a)) : s.account p = some a :=
  Table.find_of_mem positions (List.mem_of_find?_eq_some found)

theorem keeps_withUser (user : Nat) {serve : Nat → Account → Served}
    (keeps : ∀ p a, s.findUser user = some (p, a) → s.Keeps (serve p a).1) : s.Keeps (withUser s user serve).1 := by
  unfold withUser
  split
  · split
    · exact .refl s
    · next p a found => exact keeps p a found
  · exact .refl s

theorem keeps_withJob (n : Nat) {serve : Job → Served} (keeps : ∀ j, s.job n = some j → s.Keeps (serve j).1) :
    s.Keeps (withJob s n serve).1 := by
  unfold withJob
  split
  · exact .refl s
  · next j present => exact keeps j present

theorem keeps_withStream (n : Nat) {serve : Fin 4 → Served} (keeps : ∀ i, s.Keeps (serve i).1) :
    s.Keeps (withStream s n serve).1 := by
  unfold withStream
  split
  · exact .refl s
  · exact keeps _

/-! ## Accounts and the session (R1 to R17) -/

theorem keeps_serveLogin (body : List Byte) (s : State) : s.Keeps (serveLogin body s).1 := by
  refine keeps_withParsed _ fun r => ?_
  split
  · exact .refl s
  · split
    · split
      · exact .refl s
      · next p a _ =>
        unfold loginOn
        split
        · exact .refl s
        · exact .refl s
        · split
          · exact ((s.steady_changeAccount p (f := fun a => { a with failures := 0 }) fun _ => rfl).trans
              (steady_setSession ..)).keeps
          · exact (s.steady_changeAccount p Account.balance_pinFailed).keeps
    · exact .refl s

theorem keeps_serveLogout (body : List Byte) (s : State) : s.Keeps (serveLogout body s).1 :=
  keeps_withParsed _ fun _ => keeps_asSession fun _ => (steady_endSession ..).keeps

theorem keeps_serveTouch (body : List Byte) (s : State) : s.Keeps (serveTouch body s).1 :=
  keeps_withParsed _ fun _ => keeps_asSession fun _ => .refl _

theorem account_freePosition {p : Nat} (free : s.freePosition = some p) : s.account p = none :=
  Option.not_isSome_iff_eq_none.mp (by simpa using List.find?_some free)

theorem keeps_serveAccountAdd (body : List Byte) (s : State) : s.Keeps (serveAccountAdd body s).1 := by
  refine keeps_withParsed _ fun r => keeps_asAdmin ?_
  generalize s.touchSession = s
  unfold addAccount
  split
  · split
    · exact .refl s
    · next pin _ =>
      split
      · exact .refl s
      · split
        · exact .refl s
        · next p free =>
          refine ⟨id, ?_⟩
          have core : (s.setAccounts (Table.put s.accounts p (r.account pin s.settings))).core =
              { s.core with accounts := Table.put s.core.accounts p 0 } :=
            congrArg (fun x => { s.core with accounts := x }) (Table.mapVal_put Account.balance s.accounts p _)
          rw [okWith, core]
          refine Core.keeps_putAccount ?_
          exact (Table.find_mapVal Account.balance s.accounts p).trans (by rw [← account, account_freePosition free]; rfl)
  · exact .refl s

theorem keeps_serveAccountChange (body : List Byte) (s : State) : s.Keeps (serveAccountChange body s).1 := by
  refine keeps_withParsed _ fun r => keeps_asAdmin ?_
  generalize s.touchSession = s
  unfold changeFields
  split
  · split
    · exact .refl s
    · next p a _ =>
      split
      · exact .refl s
      · split
        · exact .refl s
        · next pin _ =>
          have changed := (s.steady_changeAccount p (f := fun a => a.changed r pin) fun _ => rfl).keeps
          unfold applyChange
          dsimp only [okWith]
          split
          · exact changed.trans (steady_endSession ..).keeps
          · exact changed
  · exact .refl s

theorem keeps_serveAccountUnlock (body : List Byte) (s : State) : s.Keeps (serveAccountUnlock body s).1 := by
  refine keeps_withParsed _ fun user => keeps_asAdmin (keeps_withUser _ fun p a _ => ?_)
  generalize s.touchSession = s
  have unlocked := (s.steady_changeAccount p (f := fun a => { a with state := .active, failures := 0 }) fun _ => rfl).keeps
  split
  · exact .refl s
  · exact unlocked
  · exact unlocked

theorem keeps_serveAccountRemove (body : List Byte) (s : State) : s.Keeps (serveAccountRemove body s).1 := by
  refine keeps_withParsed _ fun user => keeps_asAdmin (keeps_withUser _ fun p a _ => ?_)
  generalize s.touchSession = s
  split
  · exact .refl s
  · split
    · exact .refl s
    · next used =>
      have none : s.jobsOf p = [] := by
        by_contra some
        exact used (by rw [bne_iff_ne.mpr some, Bool.true_or])
      refine ⟨id, ?_⟩
      have core : (s.removeAccount p).core = { s.core with accounts := Table.drop s.core.accounts p } :=
        congrArg (fun x => { s.core with accounts := x }) (Table.mapVal_drop Account.balance s.accounts p)
      rw [okWith, core]
      refine Core.keeps_dropAccount fun x mem => ?_
      obtain ⟨c, held, rfl⟩ := List.mem_map.mp mem
      have listed : c.2 ∈ s.jobList := List.mem_map_of_mem held
      have other := List.filter_eq_nil_iff.mp none c.2 listed
      exact fun own => other (beq_iff_eq.mpr own)

theorem creditBalance_range {subtract : Bool} {balance holds x : Nat} (covered : holds ≤ balance)
    (range : balance ≤ Config.maxMoney) :
    holds ≤ creditBalance subtract balance (balance - holds) x ∧
      creditBalance subtract balance (balance - holds) x ≤ Config.maxMoney := by
  cases subtract <;> simp only [creditBalance, Bool.false_eq_true, if_false, if_true] <;> omega

theorem keeps_applyCredit (s : State) (p : Nat) (a : Account) (r : CreditRequest) : s.Keeps (s.applyCredit p a r) := by
  have moved : s.Keeps (s.changeAccount p fun a =>
      { a with balance := creditBalance r.subtract a.balance (s.available p) (min r.amount Config.maxMoney),
               arrears := if r.clearArrears then 0 else a.arrears }) := by
    refine ⟨id, ⟨?_, ?_, fun sound => ?_, ?_⟩⟩
    all_goals rw [core_changeAccount _ _
      (g := fun b => creditBalance r.subtract b (s.available p) (min r.amount Config.maxMoney)) fun _ => rfl]
    · exact id
    · exact id
    · refine (Core.keeps_changeBalance fun b covered range mem => ?_).money sound
      have balance : s.core.balanceOf p = b := by
        rw [Core.balanceOf, Table.find_of_mem sound.positions mem]
        rfl
      rw [available_eq, balance]
      exact creditBalance_range covered range
    · exact fun matched => ⟨matched.inOrder, matched.jobs, matched.streams, matched.bound⟩
  unfold applyCredit
  dsimp only
  split
  · exact moved
  · exact moved.trans (steady_reevaluate ..).keeps

theorem keeps_serveCredit (body : List Byte) (s : State) : s.Keeps (serveCredit body s).1 :=
  keeps_withParsed _ fun _ => keeps_asAdmin (keeps_withUser _ fun _ _ _ => keeps_applyCredit ..)

theorem keeps_serveAccountRead (body : List Byte) (s : State) : s.Keeps (serveAccountRead body s).1 := by
  refine keeps_withParsed _ fun user => ?_
  split
  · exact .refl s
  · split
    · refine s.steady_touchSession.keeps.trans ?_
      unfold readAccount
      split
      · exact .refl _
      · exact keeps_withUser _ fun _ _ _ => .refl _
    · exact .refl s

/-! ## Rates (R21 to R24) -/

theorem keeps_serveRateSet (body : List Byte) (s : State) : s.Keeps (serveRateSet body s).1 := by
  refine keeps_withParsed _ fun r => keeps_asAdmin ?_
  generalize s.touchSession = s
  split
  · unfold setPrintRate
    split
    · exact (steady_setRates ..).keeps
    · exact .refl s
  · exact (steady_setRates ..).keeps

theorem keeps_serveAreaSet (body : List Byte) (s : State) : s.Keeps (serveAreaSet body s).1 :=
  keeps_withParsed _ fun _ => keeps_asAdmin (steady_setRates ..).keeps

/-! ## Jobs (R35 to R55) -/

theorem steady_openDocument (s : State) (p : Nat) (r : OpenRequest) (job : Nat) : s.Steady (s.openDocument p r job) := by
  unfold openDocument
  split
  · exact .refl s
  · exact .refl s
  · refine (steady_foldl steady_eraseDocument (s.recycled p .scan) s).trans ?_
    exact (steady_drawn _).trans (steady_setStore ..)
  · exact steady_changeDocument ..

theorem eraseDocuments_eq (l : List Nat) (s : State) : l.foldl eraseDocument s = s.setStore (l.foldl eraseDocument s).store := by
  induction l generalizing s with
  | nil => rfl
  | cons n l ih =>
    rw [List.foldl_cons, ih]
    rfl

/-- What an open does to the store touches the store and the draws alone. -/
theorem openDocument_eq (s : State) (p : Nat) (r : OpenRequest) (job : Nat) :
    s.openDocument p r job = (s.setStore (s.openDocument p r job).store).setDraws (s.openDocument p r job).draws := by
  unfold openDocument
  split
  · rfl
  · rfl
  · rw [eraseDocuments_eq]; rfl
  · rfl

@[simp] theorem openDocument_jobs (s : State) (p : Nat) (r : OpenRequest) (job : Nat) :
    (s.openDocument p r job).jobs = s.jobs := by rw [openDocument_eq]; rfl

@[simp] theorem openDocument_accounts (s : State) (p : Nat) (r : OpenRequest) (job : Nat) :
    (s.openDocument p r job).accounts = s.accounts := by rw [openDocument_eq]; rfl

theorem keeps_acceptOpen {p : Nat} {a : Account} (r : OpenRequest) (few : s.jobs.jobs.length < Config.maxJobs)
    (owner : s.MoneySound → s.account p = some a) : s.Keeps (s.acceptOpen p r) := by
  have opened := s.steady_openDocument p r s.nextJobNumber
  have jobs : (s.openDocument p r s.nextJobNumber).jobs = s.jobs := openDocument_jobs ..
  have accounts : (s.openDocument p r s.nextJobNumber).accounts = s.accounts := openDocument_accounts ..
  unfold acceptOpen
  dsimp only
  generalize s.openDocument p r s.nextJobNumber = t at opened jobs accounts ⊢
  refine (opened.keeps.trans (keeps_addJob ?_ rfl rfl fun sound => ?_)).trans (steady_reevaluate ..).keeps
  · rw [job, jobs]
    exact (nextJobNumber_free few).1
  · have before : s.MoneySound := s.moneySound_iff.mpr (opened.core ▸ t.moneySound_iff.mp sound)
    have present := owner before
    have mem : (p, a) ∈ t.accounts := accounts ▸ Table.find_mem present
    refine ⟨a, mem, ?_⟩
    have covered : t.totalHolds p ≤ a.balance := sound.holds (p, a) mem
    have available : s.available p = a.balance - t.totalHolds p := by
      rw [State.available, present, totalHolds_eq, totalHolds_eq, opened.core]
      rfl
    have hold : (s.newJob p r s.nextJobNumber (t.openedNumber r)).holdRemaining ≤ s.available p := Nat.min_le_right ..
    show t.totalHolds p + _ ≤ a.balance
    omega

theorem few_of_openRefusal {p : Nat} {a : Account} {r : OpenRequest} (accepted : s.openRefusal p a r = none) :
    s.jobs.jobs.length < Config.maxJobs := by
  unfold openRefusal at accepted
  split at accepted
  · cases accepted
  · next passed =>
    have first := firstRefusal_eq_none.mp passed _ List.mem_cons_self
    exact Nat.not_le.mp (of_decide_eq_false first)

theorem keeps_openFor {p : Nat} {a : Account} (r : OpenRequest) (owner : s.MoneySound → s.account p = some a) :
    s.Keeps (s.openFor p a r).1 := by
  unfold openFor
  split
  · exact .refl s
  · next accepted => exact keeps_acceptOpen r (few_of_openRefusal accepted) owner

theorem keeps_serveJobOpen (body : List Byte) (s : State) : s.Keeps (serveJobOpen body s).1 := by
  refine keeps_withParsed _ fun r => ?_
  split
  · unfold openPrint
    split
    · split
      · exact .refl s
      · next p a found => exact keeps_openFor r fun sound => account_of_findUser sound.positions found
    · exact .refl s
  · refine keeps_asSession fun se => ?_
    generalize s.touchSession = s
    split
    · split
      · exact .refl s
      · next a present => exact keeps_openFor r fun _ => present
    · exact .refl s

theorem keeps_serveJobClose (body : List Byte) (s : State) : s.Keeps (serveJobClose body s).1 := by
  refine keeps_withParsed _ fun n => keeps_withJob n fun j present => ?_
  split
  · exact .refl s
  · split
    · exact .refl s
    · exact keeps_closeJob present

theorem keeps_serveJobRead (body : List Byte) (s : State) : s.Keeps (serveJobRead body s).1 :=
  keeps_withParsed _ fun n => keeps_withJob n fun _ _ => .refl s

/-! ## Streams (R125, R149 to R155) -/

theorem core_bindStream (s : State) (i : Fin 4) (j : Job) (w : Window) :
    (s.bindStream i j w).core = s.core.bound i j.number j.kind.streamKind w := by
  have streams : (fun k => ((s.setStream i (j.boundStream w)).stream k).core) =
      Function.update s.core.streams i (j.boundStream w).core := by
    funext k
    by_cases own : k = i
    · rw [own, stream_setStream_same, Function.update_self]
    · rw [stream_setStream_other _ _ own, Function.update_of_ne own]; rfl
  rw [bindStream, core_changeJob _ _ (f := fun j => { j with stream := some i }) (g := fun j => { j with stream := some i })
    fun _ => rfl]
  unfold Core.bound
  rw [show (s.setStream i (j.boundStream w)).core =
    { s.core with streams := fun k => ((s.setStream i (j.boundStream w)).stream k).core } from rfl, streams]
  rfl

theorem keeps_bindStream {se : Session} {i : Fin 4} {n : Nat} {j : Job} {a : Account} {w : Window} (present : s.job n = some j)
    (passed : firstRefusal (s.bindChecks se i j a w) = none) : s.Keeps (s.bindStream i j w) := by
  have checks := firstRefusal_eq_none.mp passed
  simp only [bindChecks, List.forall_mem_cons] at checks
  obtain ⟨idle, permitted, -, -, -, -, -, -, reserve, -⟩ := checks
  simp only [bindForbidden, Bool.or_eq_false_iff] at permitted
  obtain ⟨⟨⟨⟨⟨⟨uses, unbound⟩, -⟩, running⟩, -⟩, -⟩, -⟩ := permitted
  refine ⟨id, ?_⟩
  rw [core_bindStream]
  refine Core.keeps_bound (j := j.core) idle (fun matched => ?_)
    (Option.not_isSome_iff_eq_none.mp (Bool.eq_false_iff.mp unbound)) (by simpa using uses : j.kind.usesStore = true) running rfl ?_
  · rw [number_of_job (s.inOrder_iff.mpr matched.inOrder) present, find_core, present]
    rfl
  · rw [← boundWindows_eq]
    exact Nat.not_le.mp (of_decide_eq_false reserve)

theorem keeps_serveStreamBind (body : List Byte) (s : State) : s.Keeps (serveStreamBind body s).1 := by
  refine keeps_withParsed _ fun r => keeps_asSession fun se => ?_
  generalize s.touchSession = s
  refine keeps_withStream _ fun i => keeps_withJob _ fun j present => ?_
  unfold bindJob
  split
  · exact .refl s
  · split
    · exact .refl s
    · next passed => exact keeps_bindStream present passed

theorem bound_of_state {st : Stream} {x : StreamState} (state : st.state = x) (busy : x ≠ .idle) : st.bound = true := by
  rw [Stream.bound, state]
  exact bne_iff_ne.mpr busy

theorem keeps_serveStreamFlow (body : List Byte) (s : State) : s.Keeps (serveStreamFlow body s).1 := by
  refine keeps_withParsed _ fun n => keeps_withStream _ fun i => ?_
  have touched : s.Keeps (s.touchForFlow i) := by
    unfold touchForFlow
    split
    · exact s.steady_touchSession.keeps
    · exact .refl s
  refine touched.trans ?_
  generalize s.touchForFlow i = s
  unfold flowStream
  split
  · next hold =>
    split
    · exact .refl s
    · refine (steady_changeStream (Stream.core_of_movedTo (Stream.movedTo_flowing _) ?_)).keeps
      rw [bound_of_state hold (by decide)]
      rfl
  · exact .refl s

theorem keeps_serveStreamHold (body : List Byte) (s : State) : s.Keeps (serveStreamHold body s).1 := by
  refine keeps_withParsed _ fun n => keeps_withStream _ fun i => ?_
  unfold holdStream
  split
  · next flow =>
    refine (steady_changeStream (Stream.core_of_movedTo (Stream.movedTo_holding _) ?_)).keeps
    rw [bound_of_state flow (by decide)]
    rfl
  · exact .refl s

theorem steady_clearStream {i : Fin 4} (halted : (s.stream i).state = .halt) (n : Nat) : s.Steady (s.clearStream i n) := by
  have bound := bound_of_state halted (by decide)
  have cleared : (s.stream i).cleared.core = (s.stream i).core := by
    unfold Stream.core
    rw [bound]
    rfl
  unfold clearStream
  dsimp only
  split
  · exact ((s.steady_changeDocument _ _).trans (steady_drawn _)).trans (steady_setStream cleared)
  · exact steady_setStream cleared

theorem keeps_serveStreamClear (body : List Byte) (s : State) : s.Keeps (serveStreamClear body s).1 := by
  refine keeps_withParsed _ fun n => keeps_withStream _ fun i => ?_
  unfold clearRequest
  dsimp only
  split
  · next halted =>
    split
    · exact .refl s
    · exact (steady_clearStream halted.1 _).keeps
  · exact .refl s

theorem keeps_serveStreamRelease (body : List Byte) (s : State) : s.Keeps (serveStreamRelease body s).1 := by
  refine keeps_withParsed _ fun n => keeps_withStream _ fun i => ?_
  unfold releaseStream
  dsimp only
  split
  · exact .refl s
  · split
    · exact .refl s
    · exact keeps_unbind ..

/-! ## Documents, tamper, cartridges, settings -/

theorem keeps_serveDocumentErase (body : List Byte) (s : State) : s.Keeps (serveDocumentErase body s).1 := by
  refine keeps_withParsed _ fun n => keeps_asSession fun se => ?_
  generalize s.touchSession = s
  split
  · exact .refl s
  · split
    · exact .refl s
    · split
      · exact .refl s
      · exact (steady_eraseDocument ..).keeps

theorem keeps_serveTamperClear (body : List Byte) (s : State) : s.Keeps (serveTamperClear body s).1 := by
  refine keeps_withParsed _ fun _ => keeps_asAdmin ?_
  split
  · exact .refl _
  · exact (steady_setTamper ..).keeps

theorem keeps_serveRejectRemove (body : List Byte) (s : State) : s.Keeps (serveRejectRemove body s).1 := by
  refine keeps_withParsed _ fun serial => keeps_asAdmin ?_
  split
  · exact (steady_unlist ..).keeps
  · exact .refl _

theorem keeps_drainsPast (s : State) : s.Keeps s.drainsPast := keeps_foldl keeps_expireDrain _ s

theorem keeps_settingActs (s : State) (n : Fin 13) (lowered : Bool) : s.Keeps (s.settingActs n lowered) := by
  unfold settingActs
  split
  · exact s.steady_reevaluateAll.keeps
  · exact s.steady_reevaluateAll.keeps
  · exact s.steady_reevaluateAll.keeps
  · split
    · exact s.steady_sessionPast.keeps
    · exact .refl s
  · split
    · exact (steady_foldl steady_verifyPast _ s).keeps
    · exact .refl s
  · split
    · exact s.steady_examineSlots.keeps
    · exact .refl s
  · split
    · exact (steady_foldl steady_recheckPast _ s).keeps
    · exact .refl s
  · split
    · exact (steady_foldl steady_streamPast _ s).keeps
    · exact .refl s
  · split
    · exact s.keeps_drainsPast
    · exact .refl s
  · exact .refl s

theorem keeps_serveSettingSet (body : List Byte) (s : State) : s.Keeps (serveSettingSet body s).1 := by
  refine keeps_withParsed _ fun r => ?_
  split
  · refine Keeps.trans ?_ (steady_touchSession _).keeps
    unfold changeSetting
    split
    · exact .refl s
    · exact (steady_setSettings fun range => inRange_put range r.number r.value).keeps.trans (keeps_settingActs ..)
  · exact .refl s

theorem defaultSettings_inRange : defaultSettings.InRange := by
  unfold Settings.InRange
  decide

theorem keeps_retainedDefaults (empty : s.jobs.jobs = []) : s.Keeps s.retainedDefaults where
  ordered := fun ⟨memory, queue, _, notices, ⟨_, _, _⟩, colour⟩ =>
    ⟨memory, queue, defaultSettings_inRange, notices, ⟨Nat.zero_le _, List.nodup_nil, Nat.zero_le _⟩, colour⟩
  core := Core.keeps_factory (c := s.core) (List.map_eq_nil_iff.mpr empty)

/-- The end of the session removes no job and opens none. -/
theorem jobs_eq_nil_of_steady {t : State} (steady : s.Steady t) (empty : s.jobs.jobs = []) : t.jobs.jobs = [] := by
  have same : t.core.jobs = s.core.jobs := congrArg Core.jobs steady.core
  exact List.map_eq_nil_iff.mp (same.trans (List.map_eq_nil_iff.mpr empty))

theorem steady_slotsUnderDefaults (s : State) : s.Steady s.slotsUnderDefaults :=
  (s.steady_examineSlots.trans (steady_foldl steady_verifyPast ..)).trans (steady_foldl steady_recheckPast ..)

theorem keeps_factoryCleared (empty : s.jobs.jobs = []) : s.Keeps s.factoryCleared := by
  have ended := s.steady_endSession .factoryClear
  unfold factoryCleared
  generalize s.endSession .factoryClear = t at ended ⊢
  exact (ended.keeps.trans (keeps_retainedDefaults (jobs_eq_nil_of_steady ended empty))).trans
    (steady_slotsUnderDefaults _).keeps

theorem keeps_serveFactoryClear (body : List Byte) (s : State) : s.Keeps (serveFactoryClear body s).1 := by
  unfold serveFactoryClear
  refine keeps_withParsed _ fun _ => ?_
  split
  · split
    · next empty =>
      dsimp only [okWith]
      exact keeps_factoryCleared (List.isEmpty_iff.mp empty)
    · exact s.steady_touchSession.keeps
  · exact .refl s

/-! ## The resets (R133, R150, R180) -/

theorem keeps_supplyReset (s : State) (cause : ResetCause) : s.Keeps (s.supplyReset cause) where
  ordered := fun ⟨_, _, settings, _, lists, _⟩ =>
    ⟨Memory.wf_ofCells _, ⟨Nat.zero_le _, fun many => absurd many (by decide : ¬24 ≤ 0), fun _ => rfl⟩, settings,
      ⟨Nat.zero_le _, List.nodup_nil⟩, lists,
      fun colour => by cases colour⟩
  core := by
    have core : (s.supplyReset cause).core = { s.core with jobs := [], streams := fun _ => Core.idleStream, wipe := [] } := by
      have streams : (fun k => ((s.supplyReset cause).stream k).core) = fun _ => Core.idleStream := by
        funext k
        match k with
        | 0 | 1 | 2 | 3 => rfl
      have accounts : ((s.supplyReset cause).accounts.map fun c => (c.1, c.2.balance)) =
          s.accounts.map fun c => (c.1, c.2.balance) := List.map_map ..
      rw [State.core, streams, accounts]
      rfl
    rw [core]
    exact Core.keeps_reset _

theorem steady_resetEnded (s : State) : s.Steady s.resetEnded := by
  unfold resetEnded
  split
  · exact .refl s
  · next r _ =>
    have after : s.Steady s.afterReset := ⟨rfl, id⟩
    have told (s : State) : s.Steady (s.tellTamper r) := by
      unfold tellTamper
      split
      · exact .refl s
      · exact steady_post ..
    exact ((after.trans (steady_post ..)).trans (told _)).trans (steady_finish _)

/-! ## The commands -/

theorem keeps_outsideReset {event : State → State} (keeps : s.Keeps (event s)) : s.Keeps (outsideReset s event) := by
  unfold outsideReset
  split
  · exact .refl s
  · exact keeps.trans (steady_finish _).keeps

theorem keeps_requestFrame (cls : Byte) {serve : State → Served} (keeps : s.Keeps (serve s).1) :
    s.Keeps (requestFrame cls serve s) := by
  refine keeps_outsideReset ?_
  split
  · exact keeps.trans (steady_reply ..).keeps
  · exact (steady_turnAway ..).keeps

theorem keeps_badFrame (s : State) : s.Keeps (badFrame s) := by
  refine keeps_outsideReset ?_
  split
  · exact (steady_reply ..).keeps
  · exact (steady_discard _).keeps

/-- The request of every class keeps the invariants; a read changes at most the session's timer. -/
theorem keeps_serveClass {n : Nat} {serve : List Byte → State → Served} (served : serveClass n = some serve)
    (body : List Byte) (s : State) : s.Keeps (serve body s).1 := by
  have reads {α : Type} (parsed : Option α) (reply : α → List Byte) :
      s.Keeps (withParsed parsed s fun x => okWith s (reply x)).1 := keeps_withParsed _ fun _ => .refl s
  unfold serveClass at served
  split at served <;> cases served
  case h_1 => exact keeps_serveLogin ..
  case h_2 => exact keeps_serveLogout ..
  case h_3 => exact keeps_serveTouch ..
  case h_4 => exact keeps_serveAccountAdd ..
  case h_5 => exact keeps_serveAccountChange ..
  case h_6 => exact keeps_serveAccountUnlock ..
  case h_7 => exact keeps_serveAccountRemove ..
  case h_8 => exact keeps_serveCredit ..
  case h_9 => exact keeps_serveAccountRead ..
  case h_10 => exact keeps_serveRateSet ..
  case h_11 => exact keeps_serveAreaSet ..
  case h_12 => exact reads ..
  case h_13 => exact reads ..
  case h_14 => exact keeps_serveJobOpen ..
  case h_15 => exact keeps_serveJobClose ..
  case h_16 => exact keeps_serveJobRead ..
  case h_17 => exact reads ..
  case h_18 => exact reads ..
  case h_19 => exact reads ..
  case h_20 => exact keeps_withParsed _ fun _ => keeps_asAdmin (.refl _)
  case h_21 => exact keeps_serveRejectRemove ..
  case h_22 => exact reads ..
  case h_23 => exact keeps_serveStreamBind ..
  case h_24 => exact keeps_serveStreamFlow ..
  case h_25 => exact keeps_serveStreamHold ..
  case h_26 => exact keeps_serveStreamClear ..
  case h_27 => exact keeps_serveStreamRelease ..
  case h_28 => exact keeps_withParsed _ fun _ => keeps_withStream _ fun _ => .refl s
  case h_29 => exact keeps_serveDocumentErase ..
  case h_30 => exact keeps_withParsed _ fun _ => keeps_asSession fun _ => .refl _
  case h_31 => exact keeps_serveTamperClear ..
  case h_32 => exact keeps_serveSettingSet ..
  case h_33 => exact reads ..
  case h_34 => exact reads ..
  case h_35 => exact keeps_serveFactoryClear ..

/-- A request frame of a known class. -/
theorem keeps_request {n : Nat} {serve : List Byte → State → Served} (served : serveClass n = some serve) (cls : Byte)
    (body : List Byte) : s.Keeps (requestFrame cls (serve body) s) :=
  keeps_requestFrame cls (keeps_serveClass served body s)

theorem keeps_serveFrame (cls : Byte) (body : List Byte) (s : State) : s.Keeps (serveFrame cls body s).1 := by
  unfold serveFrame
  split
  · next served => exact keeps_serveClass served body s
  · exact .refl s

theorem keeps_frameEnded (s : State) (line : List LineByte) : s.Keeps (s.frameEnded line) := by
  unfold frameEnded
  split
  · exact .refl s
  · exact .refl s
  · exact keeps_badFrame s
  · split
    · exact keeps_requestFrame _ (keeps_serveFrame ..)
    · exact keeps_badFrame s

theorem keeps_frameGap (s : State) (line : List LineByte) : s.Keeps (s.frameGap line) := by
  unfold frameGap
  split
  · exact keeps_badFrame s
  · exact .refl s
  · exact .refl s
  · exact .refl s

theorem keeps_tamperAsserted (s : State) : s.Keeps s.tamperAsserted := by
  unfold tamperAsserted
  split
  · exact .refl s
  · split
    · exact (s.steady_tamperRetained.trans (steady_setResetting ..)).keeps
    · exact (s.steady_tamperTaken.trans (steady_finish _)).keeps

theorem keeps_presence (i : Fin 4) (b : Bool) {u : State} (steady : s.Steady u) :
    s.Keeps (if s.resetting.isSome then s.notePresence i b else u.finish) := by
  split
  · exact (steady_changeSlot ..).keeps
  · exact (steady.trans (steady_finish u)).keeps

/-- An event outside a supply reset that leaves the core as it is. -/
theorem keeps_event {event : State → State} (steady : s.Steady (event s)) : s.Keeps (outsideReset s event) :=
  keeps_outsideReset steady.keeps

/-- Every command keeps every invariant. -/
theorem exec_keeps (c : Instr) (s : State) : ∃ t, exec c s = .next t ∧ s.Keeps t := by
  cases c with
  | login b => exact ⟨_, rfl, keeps_request (n := 1) rfl 1 b⟩
  | logout b => exact ⟨_, rfl, keeps_request (n := 2) rfl 2 b⟩
  | touch b => exact ⟨_, rfl, keeps_request (n := 3) rfl 3 b⟩
  | accountAdd b => exact ⟨_, rfl, keeps_request (n := 4) rfl 4 b⟩
  | accountChange b => exact ⟨_, rfl, keeps_request (n := 5) rfl 5 b⟩
  | accountUnlock b => exact ⟨_, rfl, keeps_request (n := 6) rfl 6 b⟩
  | accountRemove b => exact ⟨_, rfl, keeps_request (n := 7) rfl 7 b⟩
  | credit b => exact ⟨_, rfl, keeps_request (n := 8) rfl 8 b⟩
  | accountRead b => exact ⟨_, rfl, keeps_request (n := 9) rfl 9 b⟩
  | rateSet b => exact ⟨_, rfl, keeps_request (n := 10) rfl 10 b⟩
  | areaSet b => exact ⟨_, rfl, keeps_request (n := 11) rfl 11 b⟩
  | rateRead b => exact ⟨_, rfl, keeps_request (n := 12) rfl 12 b⟩
  | rateQuote b => exact ⟨_, rfl, keeps_request (n := 13) rfl 13 b⟩
  | jobOpen b => exact ⟨_, rfl, keeps_request (n := 14) rfl 14 b⟩
  | jobClose b => exact ⟨_, rfl, keeps_request (n := 15) rfl 15 b⟩
  | jobRead b => exact ⟨_, rfl, keeps_request (n := 16) rfl 16 b⟩
  | queueRead b => exact ⟨_, rfl, keeps_request (n := 17) rfl 17 b⟩
  | meterRead b => exact ⟨_, rfl, keeps_request (n := 18) rfl 18 b⟩
  | slotRead b => exact ⟨_, rfl, keeps_request (n := 19) rfl 19 b⟩
  | snapshotRead b => exact ⟨_, rfl, keeps_request (n := 20) rfl 20 b⟩
  | rejectRemove b => exact ⟨_, rfl, keeps_request (n := 21) rfl 21 b⟩
  | poolRead b => exact ⟨_, rfl, keeps_request (n := 22) rfl 22 b⟩
  | streamBind b => exact ⟨_, rfl, keeps_request (n := 23) rfl 23 b⟩
  | streamFlow b => exact ⟨_, rfl, keeps_request (n := 24) rfl 24 b⟩
  | streamHold b => exact ⟨_, rfl, keeps_request (n := 25) rfl 25 b⟩
  | streamClear b => exact ⟨_, rfl, keeps_request (n := 26) rfl 26 b⟩
  | streamRelease b => exact ⟨_, rfl, keeps_request (n := 27) rfl 27 b⟩
  | streamRead b => exact ⟨_, rfl, keeps_request (n := 28) rfl 28 b⟩
  | documentErase b => exact ⟨_, rfl, keeps_request (n := 29) rfl 29 b⟩
  | documentList b => exact ⟨_, rfl, keeps_request (n := 30) rfl 30 b⟩
  | tamperClear b => exact ⟨_, rfl, keeps_request (n := 31) rfl 31 b⟩
  | settingSet b => exact ⟨_, rfl, keeps_request (n := 32) rfl 32 b⟩
  | settingRead b => exact ⟨_, rfl, keeps_request (n := 33) rfl 33 b⟩
  | statusRead b => exact ⟨_, rfl, keeps_request (n := 34) rfl 34 b⟩
  | factoryClear b => exact ⟨_, rfl, keeps_request (n := 35) rfl 35 b⟩
  | frameError line | frameWhileSlotOccupied line => exact ⟨_, rfl, keeps_frameEnded s line⟩
  | cmdGapExpiry line => exact ⟨_, rfl, keeps_frameGap s line⟩
  | cmdTxSendComplete => exact ⟨_, rfl, keeps_event (steady_sendComplete s)⟩
  | engineRecordArrival line | engineGapExpiry line => exact ⟨_, rfl, keeps_event (steady_recordMaybe ..)⟩
  | takeSheet => exact ⟨_, rfl, keeps_outsideReset (keeps_sheetTaken s)⟩
  | takeJobEnd => exact ⟨_, rfl, keeps_outsideReset (keeps_jobEndTaken s)⟩
  | takeDamaged => exact ⟨_, rfl, keeps_event (steady_damagedTaken s)⟩
  | drainExpiry job => exact ⟨_, rfl, keeps_outsideReset (keeps_expireDrain s job)⟩
  | sessionIdleExpiry => exact ⟨_, rfl, keeps_event (steady_endSession ..)⟩
  | cartInserted i => exact ⟨_, rfl, keeps_presence i true (steady_cartInserted s i)⟩
  | cartRemoved i => exact ⟨_, rfl, keeps_presence i false (steady_cartRemoved s i)⟩
  | cartIdentifyAnswer a | cartChallengeAnswer a | cartDebitAnswer a | cartBadAnswer a =>
    exact ⟨_, rfl, keeps_event (steady_tagAnswer s a)⟩
  | cartAnswerTimeout => exact ⟨_, rfl, keeps_event (steady_answerTimeout s)⟩
  | recheckExpiry i => exact ⟨_, rfl, keeps_event (steady_recheckExpired s i)⟩
  | flushExpiry i => exact ⟨_, rfl, keeps_event (steady_flushExpired s i)⟩
  | tamperEvent => exact ⟨_, rfl, keeps_tamperAsserted s⟩
  | tamperRelease => exact ⟨_, rfl, (steady_setTamper ..).keeps⟩
  | scanArrivalBegin h => exact ⟨_, rfl, keeps_event (steady_scanBegin s h)⟩
  | scanFrameEnd tail => exact ⟨_, rfl, keeps_event (steady_scanEnd ..)⟩
  | scanGapExpiry => exact ⟨_, rfl, keeps_event (steady_scanEnd ..)⟩
  | imgArrivalBegin h => exact ⟨_, rfl, keeps_event (steady_imgBegin s h)⟩
  | imgFrameEnd tail => exact ⟨_, rfl, keeps_event (steady_imgEnd ..)⟩
  | imgGapExpiry => exact ⟨_, rfl, keeps_event (steady_imgEnd ..)⟩
  | cipherEncodeComplete => exact ⟨_, rfl, keeps_event (steady_cipherCompleted _ _ steady_encrypted)⟩
  | cipherReleaseComplete => exact ⟨_, rfl, keeps_event (steady_cipherCompleted _ _ steady_released)⟩
  | imgSendComplete => exact ⟨_, rfl, keeps_outsideReset (keeps_sendCompleted _ _ keeps_imgSent)⟩
  | videoSendComplete => exact ⟨_, rfl, keeps_event (steady_sendCompleted _ _ steady_videoSent)⟩
  | streamIdleExpiry i => exact ⟨_, rfl, keeps_event (steady_streamIdle s i)⟩
  | haltFillHalfComplete => exact ⟨_, rfl, keeps_event (steady_halfFilled s)⟩
  | wipeRangeComplete => exact ⟨_, rfl, keeps_outsideReset (keeps_rangeWiped s)⟩
  | fullFillComplete => exact ⟨_, rfl, keeps_event (steady_fullFilled s)⟩
  | supplyReset cause => exact ⟨_, rfl, keeps_supplyReset s cause⟩
  | resetEnd => exact ⟨_, rfl, (steady_resetEnded s).keeps⟩

/-- Every step keeps every invariant. -/
theorem step_keeps {s t : State} (steps : step s = .next t) : s.Keeps t := by
  rcases step_cases steps with rfl | ⟨c, rest, runs⟩
  · exact s.steady_tick.keeps
  · obtain ⟨t', next, keeps⟩ := exec_keeps c (s.setPending rest)
    rw [runs] at next
    cases next
    exact (s.steady_setPending rest).keeps.trans keeps

end State

/-- Settles O57: ranges are one of the invariants that every command keeps. -/
theorem stepsKeepRanges : Obligations.StepsKeepRanges := fun _ _ range steps => (State.step_keeps steps).inRange range

/-- Settles O58: so are the money and its holds. -/
theorem stepsKeepMoneySound : Obligations.StepsKeepMoneySound := fun _ _ sound steps => (State.step_keeps steps).moneySound sound

/-- Settles O59: and so is the match of jobs and streams. -/
theorem stepsKeepBindingsMatched : Obligations.StepsKeepBindingsMatched := fun _ _ matched steps =>
  (State.step_keeps steps).bindingsMatch matched

/-! ## The state after reset (R4, R13, R36, R73, R133, R150) -/

theorem reset_inRange : State.reset.InRange where
  memory := rfl
  queue := ⟨Nat.zero_le _, fun many => absurd many (by decide), fun _ => rfl⟩
  settings := State.defaultSettings_inRange
  notices := ⟨Nat.zero_le _, List.nodup_nil⟩
  points := fun _ mem => (List.not_mem_nil mem).elim
  wipe := by unfold State.WipeReserve; decide
  lists := ⟨Nat.zero_le _, List.nodup_nil, Nat.zero_le _⟩
  colour := fun colour => by cases colour

theorem reset_inOrder : State.reset.jobs.InOrder := ⟨rfl, fun _ mem => (List.not_mem_nil mem).elim⟩

theorem reset_moneySound : State.reset.MoneySound where
  positions := rfl
  jobs := reset_inOrder
  owners := fun _ mem => (List.not_mem_nil mem).elim
  balances := by decide
  holds := by unfold State.HoldsCovered; decide

theorem stream_reset (i : Fin 4) : State.reset.stream i = {} := by
  match i with
  | 0 | 1 | 2 | 3 => rfl

theorem reset_bindingsMatch : State.reset.BindingsMatch where
  inOrder := reset_inOrder
  jobs := fun _ _ _ present => by cases present
  streams := fun i _ names => by rw [stream_reset] at names; cases names
  bound := fun i => by rw [stream_reset]; exact ⟨rfl, rfl, rfl⟩

theorem slot_reset (i : Fin 4) : State.reset.slot i = {} := by
  match i with
  | 0 | 1 | 2 | 3 => rfl

/-- The full fill is in progress and RESTART on the output line: nothing else is due. -/
theorem reset_settled : State.reset.Settled where
  left :=
    { levels := fun i => by rw [slot_reset]; rfl
      moved := by decide
      mono := rfl
      colour := rfl
      cipher := .inr fun i => by
        unfold State.eligible
        rw [stream_reset]
        rfl
      fill := .inl rfl
      line := .inr fun i => by rw [slot_reset]; rfl
      take := .inl rfl }
  right := .inl TxState.noConfusion

/-- Settles O56. -/
theorem resetStateIsSound : Obligations.ResetStateIsSound :=
  ⟨rfl, rfl, stream_reset, rfl, rfl, rfl, rfl, reset_inRange, reset_moneySound, reset_bindingsMatch, reset_settled⟩

end Sys2Proof.Machine
end

section
/-! PROOFS. The command link (O4, O5, O6, O7): frames and records read back, frames that are not served, the output line
and the posting of notices. -/

namespace Sys2Proof.Machine

/-! ## Frames and records read back -/

theorem takeLine_goodLine (bs rest : List Byte) : takeLine bs.length (goodLine (bs ++ rest)) = .all bs := by
  induction bs with
  | nil => rfl
  | cons b bs ih =>
    show (match takeLine bs.length (goodLine (bs ++ rest)) with
      | .all xs => LineTake.all (b :: xs)
      | .short => .short
      | .stopError => .stopError) = .all (b :: bs)
    rw [ih]

theorem drop_goodLine (n : Nat) (bs : List Byte) : (goodLine bs).drop n = goodLine (bs.drop n) :=
  (List.map_drop ..).symm

theorem takeChecked_goodLine (lengthBytes fields : List Byte) :
    takeChecked lengthBytes fields.length (goodLine (fields ++ checkBytes (crc (lengthBytes ++ fields)))) =
      .complete (lengthBytes ++ fields) true := by
  have all := takeLine_goodLine (fields ++ checkBytes (crc (lengthBytes ++ fields))) []
  have two : (checkBytes (crc (lengthBytes ++ fields))).length = 2 := length_be ..
  rw [List.length_append, two, List.append_nil] at all
  simp [takeChecked, all]

theorem receiveCommand_commandFrame (cls : Byte) {body : List Byte} (fits : body.length ≤ 2040) :
    receiveCommand (goodLine (commandFrame cls body)) = .complete (be 2 body.length ++ cls :: body) true := by
  have start : receiveCommand (goodLine (commandFrame cls body)) =
      afterCommandStart (goodLine (be 2 body.length ++ (cls :: body ++ checkBytes (crc (be 2 body.length ++ cls :: body))))) := by
    rw [← List.append_assoc]; rfl
  have length : takeLine 2 (goodLine (be 2 body.length ++ (cls :: body ++ checkBytes (crc (be 2 body.length ++ cls :: body)))))
      = .all (be 2 body.length) := takeLine_goodLine (be 2 body.length) _
  have value : num (be 2 body.length) = body.length := by rw [num_be]; omega
  have inside : ¬ body.length > Config.maxBody := by show ¬ body.length > 2040; omega
  have rest : ∀ l : List Byte, (be 2 body.length ++ l).drop 2 = l := fun l => by simp
  rw [start, afterCommandStart, length]
  dsimp only
  rw [value, if_neg inside, drop_goodLine, rest]
  exact takeChecked_goodLine (be 2 body.length) (cls :: body)

theorem receiveRecord_engineRecord {fields : List Byte} (fits : fields.length < 256) :
    receiveRecord (goodLine (engineRecord fields)) = .complete (be 1 fields.length ++ fields) true := by
  have start : receiveRecord (goodLine (engineRecord fields)) =
      afterEngineStart (goodLine (be 1 fields.length ++ (fields ++ checkBytes (crc (be 1 fields.length ++ fields))))) := by
    rw [← List.append_assoc]; rfl
  have length : takeLine 1 (goodLine (be 1 fields.length ++ (fields ++ checkBytes (crc (be 1 fields.length ++ fields)))))
      = .all (be 1 fields.length) := takeLine_goodLine (be 1 fields.length) _
  have value : num (be 1 fields.length) = fields.length := by rw [num_be]; omega
  have rest : ∀ l : List Byte, (be 1 fields.length ++ l).drop 1 = l := fun l => by simp
  rw [start, afterEngineStart, length]
  dsimp only
  rw [value, drop_goodLine, rest]
  exact takeChecked_goodLine (be 1 fields.length) fields

theorem arrivalEntry_engineRecord {fields : List Byte} (fits : fields.length < 256) :
    arrivalEntry (goodLine (engineRecord fields)) = some (recordEntry fields) := by
  have rest : (be 1 fields.length ++ fields).drop 1 = fields := by simp
  simp only [arrivalEntry, receiveRecord_engineRecord fits, rest]
  rfl

theorem dotsOf_bytes {d : Dots} (fits : d.k < 16777216 ∧ d.c < 16777216 ∧ d.m < 16777216 ∧ d.y < 16777216) (rest : List Byte) :
    dotsOf (d.bytes ++ rest) = d := by
  obtain ⟨k, c, m, y⟩ := d
  obtain ⟨hk, hc, hm, hy⟩ := fits
  dsimp only at hk hc hm hy
  have value : ∀ v, v < 16777216 → num (be 3 v) = v := fun v h => by rw [num_be]; omega
  have parts : dotsOf (({ k := k, c := c, m := m, y := y } : Dots).bytes ++ rest) =
      { k := num (be 3 k), c := num (be 3 c), m := num (be 3 m), y := num (be 3 y) } := rfl
  rw [parts, value k hk, value c hc, value m hm, value y hy]

theorem length_dots (d : Dots) : d.bytes.length = 12 := rfl

theorem recordEntry_sheet {r : SheetRecord} (tagFits : r.tag < 65536) (sizeFits : r.sizeClass ≤ 7)
    (dotsFit : ∀ d, d = r.side1 ∨ r.side2 = some d →
      d.k < 16777216 ∧ d.c < 16777216 ∧ d.m < 16777216 ∧ d.y < 16777216) :
    recordEntry r.fields = .sheet r := by
  obtain ⟨tag, size, side1, side2⟩ := r
  dsimp only at tagFits sizeFits
  have tagValue : num (be 2 tag) = tag := by rw [num_be]; omega
  have sizeValue : (BitVec.ofNat 8 (size / 256 ^ 0)).toNat = size := by
    rw [BitVec.toNat_ofNat]; omega
  have small : ¬ size > 7 := by omega
  have first : dotsOf side1.bytes = side1 := by
    have whole := dotsOf_bytes (dotsFit side1 (Or.inl rfl)) []
    rwa [List.append_nil] at whole
  cases side2 with
  | none =>
    have layout : recordEntry (SheetRecord.fields { tag := tag, sizeClass := size, side1 := side1, side2 := none }) =
        if (BitVec.ofNat 8 (size / 256 ^ 0)).toNat > 7 then .damaged
        else .sheet { tag := num (be 2 tag), sizeClass := (BitVec.ofNat 8 (size / 256 ^ 0)).toNat,
                      side1 := dotsOf side1.bytes, side2 := none } := by
      simp [SheetRecord.fields, recordEntry, sheetOf, be, length_dots]
    rw [layout, sizeValue, if_neg small, tagValue, first]
  | some d =>
    have second : dotsOf d.bytes = d := by
      have whole := dotsOf_bytes (dotsFit d (Or.inr rfl)) []
      rwa [List.append_nil] at whole
    have later : List.drop 12 side1.bytes = [] := rfl
    have layout : recordEntry (SheetRecord.fields { tag := tag, sizeClass := size, side1 := side1, side2 := some d }) =
        if (BitVec.ofNat 8 (size / 256 ^ 0)).toNat > 7 then .damaged
        else .sheet { tag := num (be 2 tag), sizeClass := (BitVec.ofNat 8 (size / 256 ^ 0)).toNat,
                      side1 := dotsOf (side1.bytes ++ d.bytes), side2 := some (dotsOf d.bytes) } := by
      simp [SheetRecord.fields, recordEntry, sheetOf, be, length_dots, List.drop_append, later]
    rw [layout, sizeValue, if_neg small, tagValue, dotsOf_bytes (dotsFit side1 (Or.inl rfl)), second]

theorem length_fields_lt (r : SheetRecord) : r.fields.length < 256 := by
  obtain ⟨tag, size, side1, side2⟩ := r
  cases side2 <;> simp [SheetRecord.fields, Dots.bytes]

/-- Settles O4: a frame's length field is read back by `num_be`, and the bytes that follow it are taken whole. -/
theorem framesReadBack : Obligations.FramesReadBack := by
  refine ⟨fun cls body fits => ⟨_, receiveCommand_commandFrame cls fits, ?_⟩, fun r tagFits sizeFits dotsFit => ?_,
    fun tag tagFits => ?_⟩
  · simp [classAndBody]
  · rw [arrivalEntry_engineRecord (length_fields_lt r), recordEntry_sheet tagFits sizeFits dotsFit]
  · have fits : (2 :: be 2 tag).length < 256 := by simp
    have value : num (be 2 tag) = tag := by rw [num_be]; omega
    have entry : recordEntry (2 :: be 2 tag) = .jobEnd (num (be 2 tag)) := rfl
    rw [arrivalEntry_engineRecord fits, entry, value]

/-! ## Frames that are not served -/

theorem badFrame_eq {s : State} (outside : s.resetting = none) :
    badFrame s = if s.link.requestSlot = none then
        (s.setLink { s.link with
          requestSlot := some { replyClass := 128, body := [2] }, ready := s.link.ready ++ [.request] }).finish
      else (s.setLink { s.link with discarded := min 65535 (s.link.discarded + 1) }).finish := by
  rw [badFrame, outsideReset_out outside]
  cases empty : s.link.requestSlot with
  | none => rfl
  | some r => rfl

theorem frameEnded_of_broken {s : State} {line : List LineByte} (broken : receiveCommand line = .broken) :
    s.frameEnded line = badFrame s := by
  rw [State.frameEnded, broken]

theorem frameEnded_of_badCheck {s : State} {line : List LineByte} {covered : List Byte}
    (bad : receiveCommand line = .complete covered false) : s.frameEnded line = badFrame s := by
  rw [State.frameEnded, bad]

theorem frameEnded_of_good {s : State} {line : List LineByte} {covered body : List Byte} {cls : Byte}
    (good : receiveCommand line = .complete covered true) (spells : classAndBody covered = some (cls, body)) :
    s.frameEnded line = requestFrame cls (serveFrame cls body) s := by
  rw [State.frameEnded, good]
  dsimp only
  rw [spells]

theorem frameGap_of_partly {s : State} {line : List LineByte} (inside : receiveCommand line = .partly) :
    s.frameGap line = badFrame s := by
  rw [State.frameGap, inside]

theorem Link.turnAway_eq (l : Link) {cls : Byte} (low : cls.toNat < 128) :
    l.turnAway cls = if l.refusalSlot = none then
        { l with refusalSlot := some { replyClass := cls + 128, body := [1] }, ready := l.ready ++ [.refusal] }
      else { l with discarded := min 65535 (l.discarded + 1) } := by
  unfold Link.turnAway
  cases l.refusalSlot with
  | none => rw [if_pos rfl, replyClass, if_pos low]; rfl
  | some r => rfl

/-- Settles O5: each way in which a frame is not served ends in `badFrame` or in `turnAway`. -/
theorem unservedFramesAreAnswered : Obligations.UnservedFramesAreAnswered := by
  refine ⟨fun s line outside => ?_, fun s cls body covered line outside occupied low good spells => ?_⟩
  · have answer : (.next (badFrame s) : Answered) = if s.link.requestSlot = none then
          .next (s.setLink { s.link with
            requestSlot := some { replyClass := 128, body := [2] }, ready := s.link.ready ++ [.request] }).finish
        else .next (s.setLink { s.link with discarded := min 65535 (s.link.discarded + 1) }).finish := by
      rw [badFrame_eq outside]; split <;> rfl
    refine ⟨fun ended => ?_, fun gap => ?_⟩
    · have bad : s.frameEnded line = badFrame s := by
        rcases ended with broken | ⟨covered, badCheck⟩
        · exact frameEnded_of_broken broken
        · exact frameEnded_of_badCheck badCheck
      exact ⟨(congrArg _ bad).trans answer, (congrArg _ bad).trans answer⟩
    · exact (congrArg _ (frameGap_of_partly gap)).trans answer
  · show Host.Outcome.next (s.frameEnded line) = _
    rw [frameEnded_of_good good spells, requestFrame_occupied outside occupied, Link.turnAway_eq _ low]

/-! ## The output line -/

theorem Link.sendComplete_eq (l : Link) (busy : l.tx ≠ .idle) : l.sendComplete = { l with
    tx := .idle
    requestSlot := if l.tx = .reply .request then none else l.requestSlot
    refusalSlot := if l.tx = .reply .refusal then none else l.refusalSlot } := by
  unfold Link.sendComplete
  cases source : l.tx with
  | idle => exact absurd source busy
  | notice n => rfl
  | reply slot => cases slot <;> rfl

/-- Settles O6. -/
theorem outputLineTakesRepliesFirst : Obligations.OutputLineTakesRepliesFirst := by
  refine fun s outside busy => ⟨?_, fun l free => ⟨fun r rest replies => ?_, fun n rest noReply notices => ?_⟩⟩
  · show Host.Outcome.next (outsideReset s fun s => s.setLink s.link.sendComplete) = _
    rw [outsideReset_out outside, Link.sendComplete_eq _ busy]
  · simp only [Link.arbitrate, free, replies]
  · simp only [Link.arbitrate, free, noReply, notices]

/-! ## The notice set -/

theorem Link.post_of_held {l : Link} {n : Notice} (held : ∃ h ∈ l.notices, h.key = n.key) :
    l.post n = { l with notices := l.notices.map fun h => if h.key = n.key then h.merge n else h } := by
  have any : l.notices.any (fun h => h.key == n.key) = true := by simpa using held
  rw [Link.post, if_pos any]

theorem Link.post_of_new {l : Link} {n : Notice} (new : ∀ h ∈ l.notices, h.key ≠ n.key) :
    l.post n = if l.notices.length < 64 then { l with notices := l.notices ++ [n] }
      else { l with lostNotices := satAdd Config.maxNumber l.lostNotices 1 } := by
  have none : ¬ l.notices.any (fun h => h.key == n.key) = true := by simpa using new
  rw [Link.post, if_neg none]
  rfl

/-- Settles O7. -/
theorem postingKeepsOrder : Obligations.PostingKeepsOrder := by
  refine fun l n => ⟨fun held => ?_, fun new room => ?_, fun new full => ?_⟩
  · have keys : (l.post n).notices.map Notice.key = l.notices.map Notice.key := by
      rcases Link.post_keys l n with same | ⟨new, _, _⟩
      · exact same
      · obtain ⟨h, mem, key⟩ := held
        exact absurd key (new h mem)
    refine ⟨keys, by rw [Link.post_of_held held], fun h mem other => ?_⟩
    rw [Link.post_of_held held]
    exact List.mem_map.mpr ⟨h, mem, if_neg other⟩
  · rw [Link.post_of_new new, if_pos room]
    exact ⟨rfl, rfl⟩
  · rw [Link.post_of_new new, if_neg (Nat.not_lt.mpr full)]
    exact ⟨rfl, rfl⟩

end Sys2Proof.Machine
end

section
/-! PROOFS. The checks that every request makes first (O9), and the reads that need no session (O8). -/

namespace Sys2Proof.Machine

section Checks
variable {s : State} {cls : Byte} {α : Type} {parsed : Option α} {request : State → Served}

theorem answers_malformed (serving : s.Serving) {serve : α → Served} (form : request s = withParsed parsed s serve)
    (bad : parsed = none) : Host.Outcome.next (requestFrame cls request s) = s.answersNo (replyClass cls) .malformed :=
  requestFrame_no serving (by rw [form, bad]; rfl)

theorem answers_notPermitted (serving : s.Serving) {allowed : α → Served}
    (form : request s = withParsed parsed s fun r => if s.isAdmin then allowed r else refuse s .notPermitted)
    (spells : parsed.isSome = true) (other : s.isAdmin = false) :
    Host.Outcome.next (requestFrame cls request s) = s.answersNo (replyClass cls) .notPermitted := by
  obtain ⟨r, some⟩ := Option.isSome_iff_exists.mp spells
  exact requestFrame_no serving (by rw [form, some, other]; rfl)

theorem answers_noSession (serving : s.Serving) {serve : α → Session → State → Served}
    (form : request s = withParsed parsed s fun r => asSession s (serve r))
    (spells : parsed.isSome = true) (closed : s.session = none) :
    Host.Outcome.next (requestFrame cls request s) = s.answersNo (replyClass cls) .noSession := by
  obtain ⟨r, some⟩ := Option.isSome_iff_exists.mp spells
  exact requestFrame_no serving (by rw [form, some]; exact asSession_none closed _)

theorem answers_open (serving : s.Serving) {fields : List Byte}
    (form : request s = withParsed parsed s fun _ => okWith s fields) (spells : parsed.isSome = true) :
    Host.Outcome.next (requestFrame cls request s) = s.answersOk (replyClass cls) fields := by
  obtain ⟨r, some⟩ := Option.isSome_iff_exists.mp spells
  exact requestFrame_ok serving (by rw [form, some]; rfl)

end Checks

theorem parseEmpty_none {b : List Byte} (long : b ≠ []) : parseEmpty b = none := if_neg long

theorem parseNumber_none {n : Nat} {b : List Byte} (other : b.length ≠ n) : parseNumber n b = none := if_neg other

theorem parseNumber_isSome {n : Nat} {b : List Byte} (length : b.length = n) : (parseNumber n b).isSome = true := by
  rw [parseNumber, if_pos length]; rfl

theorem parseSerial_none {b : List Byte} (other : b.length ≠ 8) : parseSerial b = none := if_neg other

theorem parseSerial_isSome {b : List Byte} (length : b.length = 8) : (parseSerial b).isSome = true := by
  rw [parseSerial, if_pos length]; rfl

theorem serveAccountRead_noSession {s : State} {b : List Byte} (length : b.length = 4) (closed : s.session = none) :
    serveAccountRead b s = refuse s .noSession := by
  simp [serveAccountRead, parseNumber, length, closed]

theorem serveJobOpen_panel {s : State} {b : List Byte} {r : OpenRequest} (spells : parseJobOpen b = some r)
    (panel : r.kind ≠ .print) : serveJobOpen b s = s.openPanel r := by
  simp [serveJobOpen, spells, panel]

/-- Settles O9: every request is `withParsed` of its layout, and the marked ones ask for authority next. -/
theorem requestsAreCheckedFirst : Obligations.RequestsAreCheckedFirst := by
  refine ⟨fun s b serving => ?_, fun s serving other => ?_, fun s serving closed => ?_⟩
  · refine ⟨answers_malformed serving rfl, fun long => ?_, answers_malformed serving rfl, answers_malformed serving rfl,
      fun other => ?_, answers_malformed serving rfl, answers_malformed serving rfl, answers_malformed serving rfl,
      answers_malformed serving rfl, answers_malformed serving rfl, fun other => ?_,
      fun other => answers_malformed serving rfl (parseSerial_none other), answers_malformed serving rfl, fun other => ?_,
      answers_malformed serving rfl⟩
    · have bad := parseEmpty_none long
      exact ⟨answers_malformed serving rfl bad, answers_malformed serving rfl bad, answers_malformed serving rfl bad,
        answers_malformed serving rfl bad, answers_malformed serving rfl bad, answers_malformed serving rfl bad,
        answers_malformed serving rfl bad, answers_malformed serving rfl bad, answers_malformed serving rfl bad,
        answers_malformed serving rfl bad, answers_malformed serving rfl bad, answers_malformed serving rfl bad,
        answers_malformed serving rfl bad⟩
    · have bad := parseNumber_none other
      exact ⟨answers_malformed serving rfl bad, answers_malformed serving rfl bad, answers_malformed serving rfl bad⟩
    · have bad := parseNumber_none other
      exact ⟨answers_malformed serving rfl bad, answers_malformed serving rfl bad, answers_malformed serving rfl bad⟩
    · have bad := parseNumber_none other
      exact ⟨answers_malformed serving rfl bad, answers_malformed serving rfl bad, answers_malformed serving rfl bad,
        answers_malformed serving rfl bad, answers_malformed serving rfl bad⟩
  · exact ⟨fun b spells => answers_notPermitted serving rfl spells other,
      fun b spells => answers_notPermitted serving rfl spells other,
      fun b length => answers_notPermitted serving rfl (parseNumber_isSome length) other,
      fun b length => answers_notPermitted serving rfl (parseNumber_isSome length) other,
      fun b spells => answers_notPermitted serving rfl spells other,
      fun b spells => answers_notPermitted serving rfl spells other,
      fun b spells => answers_notPermitted serving rfl spells other,
      answers_notPermitted serving (parsed := parseEmpty []) rfl rfl other,
      fun b length => answers_notPermitted serving rfl (parseSerial_isSome length) other,
      answers_notPermitted serving (parsed := parseEmpty []) rfl rfl other,
      fun b spells => answers_notPermitted serving rfl spells other,
      answers_notPermitted serving (parsed := parseEmpty []) rfl rfl other⟩
  · exact ⟨answers_noSession serving (parsed := parseEmpty []) rfl rfl closed,
      answers_noSession serving (parsed := parseEmpty []) rfl rfl closed,
      fun b length => requestFrame_no serving (serveAccountRead_noSession length closed),
      fun b r spells panel => requestFrame_no serving ((serveJobOpen_panel spells panel).trans (asSession_none closed _)),
      fun b spells => answers_noSession serving rfl spells closed,
      fun b length => answers_noSession serving rfl (parseNumber_isSome length) closed,
      answers_noSession serving (parsed := parseEmpty []) rfl rfl closed⟩

/-! ## The reads that need no session -/

theorem withJob_some {s : State} {n : Nat} {j : Job} (present : s.job n = some j) (serve : Job → Served) :
    withJob s n serve = serve j := by
  rw [withJob, present]

theorem withJob_none {s : State} {n : Nat} (absent : s.job n = none) (serve : Job → Served) :
    withJob s n serve = refuse s .range := by
  rw [withJob, absent]

theorem be_one (n : Nat) : be 1 n = [BitVec.ofNat 8 n] := by simp [be]

theorem metersReply_eq (s : State) : s.metersReply =
    (s.meters.toList.flatMap fun m => packedDigits m.value ++ [if m.full then 1 else 0])
      ++ [BitVec.ofNat 8 (s.meters.toList.countP fun m => m.full)] := by
  rw [State.metersReply, be_one]; rfl

/-- Settles O8. -/
theorem openReadsChangeNothing : Obligations.OpenReadsChangeNothing := by
  refine ⟨fun s serving => ?_, fun s serving => ⟨fun n fits => ?_, fun n fits => ?_⟩⟩
  · refine ⟨answers_open serving (parsed := parseEmpty []) rfl rfl, answers_open serving (parsed := parseEmpty []) rfl rfl,
      metersReply_eq s ▸ answers_open serving (parsed := parseEmpty []) rfl rfl, answers_open serving (parsed := parseEmpty []) rfl rfl,
      answers_open serving (parsed := parseEmpty []) rfl rfl, answers_open serving (parsed := parseEmpty []) rfl rfl,
      answers_open serving (parsed := parseEmpty []) rfl rfl, fun quiet cls fields => ?_⟩
    rw [State.answersOk, State.reply, (quiet.setLink _).finish_eq]
    rfl
  · have spells : parseNumber 2 (be 2 n) = some n := parseNumber_be fits
    have form (s : State) : serveJobRead (be 2 n) s = withJob s n fun j => okWith s (s.jobReply j) := by
      rw [serveJobRead, spells]; rfl
    exact ⟨fun j present => requestFrame_ok serving ((form s).trans (withJob_some present _)),
      fun absent => requestFrame_no serving ((form s).trans (withJob_none absent _))⟩
  · have spells : parseNumber 1 (be 1 n) = some n := parseNumber_be fits
    have form (s : State) : serveStreamRead (be 1 n) s = withStream s n fun i => okWith s (s.streamReply i) := by
      rw [serveStreamRead, spells]; rfl
    refine ⟨fun i named => requestFrame_ok serving ((form s).trans ?_),
      fun above => requestFrame_no serving ((form s).trans (withStream_above above _))⟩
    rw [← named]
    exact withStream_index i _

end Sys2Proof.Machine
end

section
/-! PROOFS. What the halt of streams, the stop of jobs and the re-evaluation of stages change, and what none of them
touches: the rules that the statements about sessions, money, jobs, tamper and settings share. -/

namespace Sys2Proof.Machine

/-- An account but for its stage. -/
def Account.unstaged (a : Account) : Account := { a with stage := .full }

theorem Account.fields_of_unstaged {x y : Account} (same : x.unstaged = y.unstaged) :
    x.balance = y.balance ∧ x.arrears = y.arrears ∧ x.pin = y.pin ∧ x.state = y.state ∧ x.role = y.role ∧
      x.counters = y.counters := by
  simp only [Account.unstaged, Account.mk.injEq] at same
  obtain ⟨_, role, state, pin, _, _, _, balance, arrears, _, counters⟩ := same
  exact ⟨balance, arrears, pin, state, role, counters⟩

theorem Job.stopped_of_active {j : Job} (active : j.active = true) (cause : StopCause) :
    j.stopped cause = { j with state := .stopping, stopCause := some cause } := if_pos active

theorem Job.stopped_of_inactive {j : Job} (inactive : j.active = false) (cause : StopCause) : j.stopped cause = j := by
  rw [Job.stopped, inactive]; rfl

theorem Job.active_iff (j : Job) : j.active = true ↔ j.state = .opened ∨ j.state = .running := by
  simp [Job.active]

theorem Job.active_stopped (j : Job) (cause : StopCause) : (j.stopped cause).active = false := by
  cases active : j.active with
  | true => rw [Job.stopped_of_active active]; rfl
  | false => rw [Job.stopped_of_inactive active]; exact active

theorem Job.stopped_stopped (j : Job) (cause cause' : StopCause) : (j.stopped cause).stopped cause' = j.stopped cause :=
  Job.stopped_of_inactive (j.active_stopped cause) cause'

/-- The notices that a halt, a stop or a re-evaluation posts: STAGE_CHANGE, JOB_STOP and STREAM_HALT. -/
def Notice.tellsStop (n : Notice) : Bool := n.kind == 3 || n.kind == 4 || n.kind == 7

theorem Notice.key_ne_of_tellsStop {x n : Notice} (tells : n.tellsStop = true) (other : x.tellsStop = false) :
    x.key ≠ n.key := by
  intro same
  have kinds : x.kind = n.kind := congrArg Prod.fst same
  rw [Notice.tellsStop, kinds] at other
  exact Bool.noConfusion (other.symm.trans tells)

theorem Link.mem_post {l : Link} {x n : Notice} (mem : x ∈ l.notices) (other : x.key ≠ n.key) : x ∈ (l.post n).notices := by
  by_cases held : ∃ h ∈ l.notices, h.key = n.key
  · rw [Link.post_of_held held]
    exact List.mem_map.mpr ⟨x, mem, if_neg other⟩
  · have new : ∀ h ∈ l.notices, h.key ≠ n.key := fun h mem same => held ⟨h, mem, same⟩
    rw [Link.post_of_new new]
    split
    · exact List.mem_append_left _ mem
    · exact mem

/-- A notice that merges into itself alone stands after its posting, where there was room or its pair was held. -/
theorem Link.mem_post_self {l : Link} {n : Notice} (whole : ∀ h : Notice, h.merge n = n)
    (room : l.notices.length < 64 ∨ ∃ h ∈ l.notices, h.key = n.key) : n ∈ (l.post n).notices := by
  by_cases held : ∃ h ∈ l.notices, h.key = n.key
  · obtain ⟨h, mem, key⟩ := held
    rw [Link.post_of_held ⟨h, mem, key⟩]
    exact List.mem_map.mpr ⟨h, mem, (if_pos key).trans (whole h)⟩
  · have new : ∀ h ∈ l.notices, h.key ≠ n.key := fun h mem same => held ⟨h, mem, same⟩
    rw [Link.post_of_new new, if_pos (room.resolve_right held)]
    exact List.mem_append_right _ (List.mem_singleton.mpr rfl)

namespace State

variable {s t u : State}

/-- The state with everything blank that a halt, a stop or a re-evaluation can change. -/
def stopFree (s : State) : State :=
  { s with link := emptyLink, accounts := [], jobs := { jobs := [], lastNumber := s.jobs.lastNumber }, streams := fourOf {},
           ports := emptyPorts, pool := { s.pool with waiting := [] } }

/-- From `s` to `t` some jobs have stopped, some streams in HOLD or FLOW have halted and some stages have changed, with
their notices, and nothing else is different. -/
structure StopsOnly (s t : State) : Prop where
  rest : t.stopFree = s.stopFree
  steady : s.Steady t
  accounts : ∀ q, (t.account q).map Account.unstaged = (s.account q).map Account.unstaged
  jobs : ∀ n, t.job n = s.job n ∨ ∃ j c, s.job n = some j ∧ j.active = true ∧ t.job n = some (j.stopped c)
  streams : ∀ i, (s.stream i).holdOrFlow = false → t.stream i = s.stream i
  notices : ∀ x ∈ s.link.notices, x.tellsStop = false → x ∈ t.link.notices

namespace StopsOnly

theorem refl (s : State) : s.StopsOnly s where
  rest := rfl
  steady := .refl s
  accounts _ := rfl
  jobs _ := Or.inl rfl
  streams _ _ := rfl
  notices _ mem _ := mem

theorem trans (first : s.StopsOnly t) (second : t.StopsOnly u) : s.StopsOnly u where
  rest := second.rest.trans first.rest
  steady := first.steady.trans second.steady
  accounts q := (second.accounts q).trans (first.accounts q)
  jobs n := by
    rcases second.jobs n with same | ⟨j, c, present, active, stopped⟩
    · rw [same]; exact first.jobs n
    · rcases first.jobs n with same | ⟨j', c', present', active', stopped'⟩
      · exact Or.inr ⟨j, c, same ▸ present, active, stopped⟩
      · have known : j = j'.stopped c' := Option.some.inj (present.symm.trans stopped')
        rw [known, Job.active_stopped] at active
        cases active
  streams i still := by
    have kept := first.streams i still
    rw [second.streams i (by rw [kept]; exact still), kept]
  notices x mem other := second.notices x (first.notices x mem other) other

section Fields
variable (only : s.StopsOnly t)
include only

theorem field {α : Type} (f : State → α) : f t.stopFree = f s.stopFree := congrArg f only.rest

theorem house : t.house = s.house := only.field State.house
theorem session : t.session = s.session := only.field State.session
theorem rates : t.rates = s.rates := only.field State.rates
theorem settings : t.settings = s.settings := only.field State.settings
theorem queue : t.queue = s.queue := only.field State.queue
theorem meters : t.meters = s.meters := only.field State.meters
theorem cart : t.cart = s.cart := only.field State.cart
theorem cipher : t.cipher = s.cipher := only.field State.cipher
theorem store : t.store = s.store := only.field State.store
theorem tamper : t.tamper = s.tamper := only.field State.tamper
theorem resetting : t.resetting = s.resetting := only.field State.resetting
theorem draws : t.draws = s.draws := only.field State.draws
theorem pending : t.pending = s.pending := only.field State.pending
theorem lastNumber : t.jobs.lastNumber = s.jobs.lastNumber := only.field (fun x => x.jobs.lastNumber)
theorem mem : t.pool.mem = s.pool.mem := only.field (fun x => x.pool.mem)
theorem wipe : t.pool.wipe = s.pool.wipe := only.field (fun x => x.pool.wipe)
theorem fill : t.pool.fill = s.pool.fill := only.field (fun x => x.pool.fill)

theorem slot (i : Fin 4) : t.slot i = s.slot i := congrArg (fun x => x.slots.get i) only.cart

theorem document (n : Nat) : t.document n = s.document n := congrArg (fun x => x.docs.find? fun d => d.number == n) only.store

theorem totalHolds (q : Nat) : t.totalHolds q = s.totalHolds q := by
  rw [totalHolds_eq, totalHolds_eq, only.steady.core]

theorem inOrder (order : s.jobs.InOrder) : t.jobs.InOrder := by
  rw [inOrder_iff, only.steady.core, ← inOrder_iff]; exact order

theorem balance (q : Nat) : (t.account q).map (·.balance) = (s.account q).map (·.balance) := by
  have same := congrArg (Option.map Account.balance) (only.accounts q)
  rw [Option.map_map, Option.map_map] at same
  exact same

theorem account_some {q : Nat} {a : Account} (present : s.account q = some a) :
    ∃ x, t.account q = some x ∧ x.unstaged = a.unstaged := by
  have same := only.accounts q
  rw [present] at same
  exact Option.map_eq_some_iff.mp same

theorem job_of_inactive {n : Nat} {j : Job} (present : s.job n = some j) (inactive : j.active = false) :
    t.job n = some j := by
  rcases only.jobs n with same | ⟨j', c, present', active, _⟩
  · rw [same, present]
  · rw [Option.some.inj (present.symm.trans present')] at inactive
    rw [active] at inactive
    cases inactive

theorem job_none {n : Nat} (absent : s.job n = none) : t.job n = none := by
  rcases only.jobs n with same | ⟨j, _, present, _⟩
  · rw [same, absent]
  · rw [absent] at present; cases present

/-- A job is itself afterwards, but perhaps stopped. -/
theorem job_some {n : Nat} {j : Job} (present : s.job n = some j) :
    t.job n = some j ∨ ∃ c, j.active = true ∧ t.job n = some { j with state := .stopping, stopCause := some c } := by
  rcases only.jobs n with same | ⟨j', c, present', active, stopped⟩
  · exact Or.inl (same.trans present)
  · obtain rfl := Option.some.inj (present.symm.trans present')
    exact Or.inr ⟨c, active, stopped.trans (congrArg some (Job.stopped_of_active active c))⟩

/-- What no stop changes of a job is the same for every number. -/
theorem job_map {α : Type} {f : Job → α} (blind : ∀ j c, f (Job.stopped j c) = f j) (n : Nat) :
    (t.job n).map f = (s.job n).map f := by
  rcases only.jobs n with same | ⟨j, c, present, _, stopped⟩
  · rw [same]
  · rw [stopped, present]; exact congrArg some (blind j c)

end Fields

theorem foldl {α : Type} {f : State → α → State} (each : ∀ (s : State) (a : α), s.StopsOnly (f s a)) (l : List α) (s : State) :
    s.StopsOnly (l.foldl f s) := by
  induction l generalizing s with
  | nil => exact .refl s
  | cons a rest ih => exact (each s a).trans (ih _)

end StopsOnly

theorem notices_post {n : Notice} (tells : n.tellsStop = true) :
    ∀ x ∈ s.link.notices, x.tellsStop = false → x ∈ (s.post n).link.notices :=
  fun _ mem other => Link.mem_post mem (Notice.key_ne_of_tellsStop tells other)

theorem stopsOnly_post (s : State) {n : Notice} (tells : n.tellsStop = true) : s.StopsOnly (s.post n) where
  rest := rfl
  steady := s.steady_post n
  accounts _ := rfl
  jobs _ := Or.inl rfl
  streams _ _ := rfl
  notices := notices_post tells

theorem mayHalt_eq_false {st : Stream} {cause : HaltCause} (still : st.holdOrFlow = false) (calm : cause ≠ .tamper) :
    st.mayHalt cause = false := by
  simp [Stream.mayHalt, still, calm]

/-- The parts of a state that a halt writes. -/
theorem halt_parts {i : Fin 4} {cause : HaltCause} (may : (s.stream i).mayHalt cause = true) :
    ∃ st ports halves n, n.tellsStop = true ∧
      s.halt i cause = (((s.setStream i st).setPorts ports).joinFill i halves).post n := by
  unfold halt haltStream
  rw [if_pos may, if_pos may]
  exact ⟨_, _, _, _, rfl, rfl⟩

theorem stopsOnly_halt (s : State) (i : Fin 4) {cause : HaltCause} (calm : cause ≠ .tamper) : s.StopsOnly (s.halt i cause) := by
  cases may : (s.stream i).mayHalt cause with
  | false => rw [halt_eq_self may]; exact .refl s
  | true =>
    have steady := s.steady_halt i cause
    have others : ∀ k, (s.stream k).holdOrFlow = false → (s.halt i cause).stream k = s.stream k := by
      intro k still
      refine halt_stream_other cause fun same => ?_
      rw [← same, mayHalt_eq_false still calm] at may
      cases may
    obtain ⟨st, ports, halves, n, tells, parts⟩ := halt_parts may
    rw [parts] at steady others ⊢
    exact { rest := rfl, steady := steady, accounts := fun _ => rfl, jobs := fun _ => Or.inl rfl, streams := others,
            notices := notices_post tells }

theorem stopsOnly_haltAll (s : State) {cause : HaltCause} (calm : cause ≠ .tamper) (l : List (Fin 4)) :
    s.StopsOnly (s.haltAll cause l) := StopsOnly.foldl (fun s i => s.stopsOnly_halt i calm) l s

/-! ## The stop of a job -/

/-- A job's state and stop cause changed by a stop: the record alone. -/
theorem stopsOnly_stopped (s : State) (n : Nat) (cause : StopCause) : s.StopsOnly (s.changeJob n fun j => j.stopped cause) where
  rest := rfl
  steady := s.steady_changeJob n fun j => j.core_stopped cause
  accounts _ := rfl
  jobs m := by
    rw [job_changeJob]
    split
    · cases present : s.job m with
      | none => exact Or.inl rfl
      | some j =>
        cases active : j.active with
        | true => exact Or.inr ⟨j, cause, rfl, active, rfl⟩
        | false => exact Or.inl (congrArg some (Job.stopped_of_inactive active cause))
    · exact Or.inl rfl
  streams _ _ := rfl
  notices _ mem _ := mem

theorem stopsOnly_stopJob (s : State) (n : Nat) (cause : StopCause) : s.StopsOnly (s.stopJob n cause) := by
  unfold stopJob
  split
  · exact .refl s
  · next j present =>
    have told : s.StopsOnly ((s.changeJob n fun j => j.stopped cause).post (.jobStop n (s.userNumber j.owner) cause)) :=
      (s.stopsOnly_stopped n cause).trans (stopsOnly_post _ rfl)
    split
    · dsimp only
      split
      · split
        · exact told.trans (stopsOnly_halt _ _ (by decide))
        · exact told
      · exact told
    · exact .refl s

theorem stopsOnly_stopJobs (s : State) (cause : StopCause) (numbers : List Nat) : s.StopsOnly (s.stopJobs cause numbers) :=
  StopsOnly.foldl (fun s n => s.stopsOnly_stopJob n cause) numbers s

theorem job_halt (s : State) (i : Fin 4) (cause : HaltCause) (n : Nat) : (s.halt i cause).job n = s.job n := by
  rw [job, (halt_jobs_store (s := s) i cause).1]; rfl

theorem job_stopJob (s : State) (n : Nat) (cause : StopCause) (m : Nat) :
    (s.stopJob n cause).job m = if m = n then (s.job m).map (·.stopped cause) else s.job m := by
  unfold stopJob
  split
  · next absent =>
    split
    · next same => rw [same, absent]; rfl
    · rfl
  · next j present =>
    have told : ((s.changeJob n fun j => j.stopped cause).post (.jobStop n (s.userNumber j.owner) cause)).job m =
        if m = n then (s.job m).map (·.stopped cause) else s.job m := job_changeJob s n _ m
    split
    · dsimp only
      split
      · split
        · rw [job_halt, told]
        · exact told
      · exact told
    · next inactive =>
      split
      · next same =>
        rw [same, present]
        exact congrArg some (Job.stopped_of_inactive (Bool.eq_false_iff.mpr inactive) cause).symm
      · rfl

/-- A fold of operations each of which stops one job and no other. -/
theorem job_foldl_stopped {f : State → Nat → State} {cause : StopCause}
    (each : ∀ (s : State) n m, (f s n).job m = if m = n then (s.job m).map (·.stopped cause) else s.job m)
    (l : List Nat) (s : State) (m : Nat) :
    (l.foldl f s).job m = if m ∈ l then (s.job m).map (·.stopped cause) else s.job m := by
  induction l generalizing s with
  | nil => rfl
  | cons n rest ih =>
    rw [List.foldl_cons, ih, each]
    by_cases same : m = n
    · subst same
      cases s.job m <;> simp [Job.stopped_stopped]
    · simp [same]

theorem job_stopJobs (s : State) (cause : StopCause) (numbers : List Nat) (m : Nat) :
    (s.stopJobs cause numbers).job m = if m ∈ numbers then (s.job m).map (·.stopped cause) else s.job m :=
  job_foldl_stopped (fun s n m => job_stopJob s n cause m) numbers s m

theorem job_of_mem {n : Nat} {j : Job} (order : s.jobs.InOrder) (mem : (n, j) ∈ s.jobs.jobs) : s.job n = some j :=
  Table.find_of_mem order.1 mem

theorem mem_jobList_iff (order : s.jobs.InOrder) (j : Job) : j ∈ s.jobList ↔ s.job j.number = some j := by
  constructor
  · intro mem
    obtain ⟨⟨n, x⟩, listed, same⟩ := List.mem_map.mp mem
    dsimp only at same
    subst same
    have number : n = x.number := order.2 _ listed
    exact job_of_mem order (number ▸ listed)
  · exact fun present => List.mem_map.mpr ⟨_, Table.find_mem present, rfl⟩

theorem mem_jobNumbers (order : s.jobs.InOrder) {n p : Nat} {f : Job → Bool} :
    n ∈ s.jobNumbers p f ↔ ∃ j, s.job n = some j ∧ j.owner = p ∧ f j = true := by
  simp only [jobNumbers, jobsOf, List.mem_map, List.mem_filter, mem_jobList_iff order, beq_iff_eq]
  constructor
  · rintro ⟨j, ⟨⟨present, owner⟩, meets⟩, rfl⟩
    exact ⟨j, present, owner, meets⟩
  · rintro ⟨j, present, owner, meets⟩
    have number := number_of_job order present
    exact ⟨j, ⟨⟨number.symm ▸ present, owner⟩, meets⟩, number⟩

theorem job_stopNumbers (order : s.jobs.InOrder) {p : Nat} {f : Job → Bool} {cause : StopCause} {n : Nat} {j : Job}
    (present : s.job n = some j) :
    (s.stopJobs cause (s.jobNumbers p f)).job n = some (if j.owner = p ∧ f j = true then j.stopped cause else j) := by
  have listed : n ∈ s.jobNumbers p f ↔ j.owner = p ∧ f j = true := by
    rw [mem_jobNumbers order, present]
    exact ⟨fun ⟨x, same, meets⟩ => Option.some.inj same ▸ meets, fun meets => ⟨j, rfl, meets⟩⟩
  rw [job_stopJobs, present]
  by_cases meets : j.owner = p ∧ f j = true
  · rw [if_pos (listed.mpr meets), if_pos meets]; rfl
  · rw [if_neg (mt listed.mp meets), if_neg meets]

/-! ## The re-evaluation of a stage -/

theorem account_stopJobs (s : State) (cause : StopCause) (numbers : List Nat) (q : Nat) :
    (s.stopJobs cause numbers).account q = s.account q := by
  have same : (s.stopJobs cause numbers).accounts = s.accounts := by
    unfold stopJobs
    induction numbers generalizing s with
    | nil => rfl
    | cons n rest ih => exact (ih _).trans (stopJob_images n cause).accounts
  rw [account, same]; rfl

/-- The stage written and told. -/
def staged (s : State) (p : Nat) (a : Account) (stage : Stage) : State :=
  (s.changeAccount p fun a => { a with stage := stage }).post
    (.stageChange p a.userNumber a.stage stage (s.available p))

theorem reevaluate_none {p : Nat} (absent : s.account p = none) : s.reevaluate p = s := by
  rw [reevaluate, absent]

theorem reevaluate_same {p : Nat} {a : Account} (present : s.account p = some a)
    (same : stageAfter s.settings a.stage (s.available p) = a.stage) : s.reevaluate p = s := by
  rw [reevaluate, present]
  exact if_pos same

theorem reevaluate_moved {p : Nat} {a : Account} (present : s.account p = some a)
    (moved : stageAfter s.settings a.stage (s.available p) ≠ a.stage) :
    s.reevaluate p = if stageAfter s.settings a.stage (s.available p) = .stopped
      then (s.staged p a .stopped).stopJobs .credit ((s.staged p a .stopped).jobNumbers p Job.stopsOnCredit)
      else s.staged p a (stageAfter s.settings a.stage (s.available p)) := by
  rw [reevaluate, present]
  dsimp only
  rw [if_neg moved]
  split
  · next stopped => rw [stopped]; rfl
  · rfl

theorem account_staged (s : State) (p : Nat) (a : Account) (stage : Stage) (q : Nat) :
    (s.staged p a stage).account q = if q = p then (s.account q).map fun a => { a with stage := stage } else s.account q :=
  account_changeAccount s p (fun a => { a with stage := stage }) q

theorem stopsOnly_staged (s : State) (p : Nat) (a : Account) (stage : Stage) : s.StopsOnly (s.staged p a stage) where
  rest := rfl
  steady := (s.steady_changeAccount p (f := fun a => { a with stage := stage }) fun _ => rfl).trans (steady_post ..)
  accounts q := by
    rw [account_staged]
    split
    · rw [Option.map_map]; rfl
    · rfl
  jobs _ := Or.inl rfl
  streams _ _ := rfl
  notices := notices_post (s := s.changeAccount p fun a => { a with stage := stage }) rfl

theorem account_reevaluate {p : Nat} {a : Account} (present : s.account p = some a) (q : Nat) :
    (s.reevaluate p).account q =
      if q = p then some { a with stage := stageAfter s.settings a.stage (s.available p) } else s.account q := by
  by_cases same : stageAfter s.settings a.stage (s.available p) = a.stage
  · rw [reevaluate_same present same, same]
    split
    · next here => rw [here, present]
    · rfl
  · have staged : ∀ stage, (s.staged p a stage).account q = if q = p then some { a with stage := stage } else s.account q := by
      intro stage
      rw [account_staged]
      split
      · next here => rw [here, present]; rfl
      · rfl
    rw [reevaluate_moved present same]
    split
    · next stopped => rw [account_stopJobs, staged, stopped]
    · exact staged _

theorem account_reevaluate_other {p q : Nat} (other : q ≠ p) : (s.reevaluate p).account q = s.account q := by
  cases present : s.account p with
  | none => rw [reevaluate_none present]
  | some a => rw [account_reevaluate present, if_neg other]

theorem stopsOnly_reevaluate (s : State) (p : Nat) : s.StopsOnly (s.reevaluate p) := by
  cases present : s.account p with
  | none => rw [reevaluate_none present]; exact .refl s
  | some a =>
    by_cases same : stageAfter s.settings a.stage (s.available p) = a.stage
    · rw [reevaluate_same present same]; exact .refl s
    · rw [reevaluate_moved present same]
      split
      · exact (s.stopsOnly_staged p a _).trans (stopsOnly_stopJobs ..)
      · exact s.stopsOnly_staged p a _

theorem stopsOnly_reevaluateAll (s : State) : s.StopsOnly s.reevaluateAll := StopsOnly.foldl stopsOnly_reevaluate _ s

theorem stopsOnly_reevaluateIf (s : State) (before p : Nat) : s.StopsOnly (s.reevaluateIf before p) := by
  unfold reevaluateIf
  split
  · exact .refl s
  · exact s.stopsOnly_reevaluate p

theorem account_reevaluateIf_other {before p q : Nat} (other : q ≠ p) : (s.reevaluateIf before p).account q = s.account q := by
  unfold reevaluateIf
  split
  · rfl
  · exact account_reevaluate_other other

end State

/-! ## The table of stages (O24) -/

theorem stageAfter_stageAfter {st : Settings} (order : st.stop ≤ st.caution) (x : Stage) (a : Nat) :
    stageAfter st (stageAfter st x a) a = stageAfter st x a := by
  cases x <;> grind [stageAfter]

theorem Job.stopsOnCredit_iff (j : Job) :
    j.stopsOnCredit = true ↔ j.kind ≠ .scan ∧ (j.state = .opened ∨ j.state = .running) := by
  simp [Job.stopsOnCredit, Job.active, and_comm]

theorem State.jobs_reevaluate {s : State} {p : Nat} {a : Account} (present : s.account p = some a)
    (running : stageAfter s.settings a.stage (s.available p) ≠ .stopped) : (s.reevaluate p).jobs = s.jobs := by
  by_cases same : stageAfter s.settings a.stage (s.available p) = a.stage
  · rw [State.reevaluate_same present same]
  · rw [State.reevaluate_moved present same, if_neg running]; rfl

/-- An entry into STOPPED stops the account's COPY, PRINT and BOX_PRINT jobs. -/
theorem State.job_reevaluate {s : State} {p : Nat} {a : Account} (order : s.jobs.InOrder) (present : s.account p = some a)
    (stopped : stageAfter s.settings a.stage (s.available p) = .stopped) (entered : a.stage ≠ .stopped) {n : Nat} {j : Job}
    (listed : s.job n = some j) :
    (s.reevaluate p).job n = some (if j.owner = p ∧ j.stopsOnCredit = true then j.stopped .credit else j) := by
  have moved : stageAfter s.settings a.stage (s.available p) ≠ a.stage := by rw [stopped]; exact entered.symm
  rw [State.reevaluate_moved present moved, if_pos stopped]
  exact State.job_stopNumbers (s := s.staged p a .stopped) order listed

/-- Settles O24. -/
theorem stagesFollowTheTable : Obligations.StagesFollowTheTable := by
  refine ⟨fun st a order => ?_, fun s p a order present => ⟨?_, fun q other => ?_, fun same => ?_, fun stopped entered n j listed => ?_,
    fun running => State.jobs_reevaluate present running⟩⟩
  · refine ⟨?_, ?_, ?_, ?_, ?_, ?_, ?_, ?_, ?_, fun x => stageAfter_stageAfter order x a⟩ <;>
      grind [stageAfter]
  · rw [State.account_reevaluate present, if_pos rfl]
  · exact State.account_reevaluate_other other
  · exact State.reevaluate_same present same
  · rw [State.job_reevaluate order present stopped entered listed]
    by_cases meets : j.owner = p ∧ j.stopsOnCredit = true
    · obtain ⟨owner, stops⟩ := meets
      have parts := (j.stopsOnCredit_iff).mp stops
      rw [if_pos ⟨owner, stops⟩, if_pos ⟨owner, parts⟩, Job.stopped_of_active ((j.active_iff).mpr parts.2)]
    · rw [if_neg meets, if_neg (fun ⟨owner, parts⟩ => meets ⟨owner, (j.stopsOnCredit_iff).mpr parts⟩)]

end Sys2Proof.Machine
end

section
/-! PROOFS. The end of the session (O12) and the account requests (O11, O13, O14, O15). -/

namespace Sys2Proof.Machine

/-! ## The end of the session -/

/-- A stream is halted by the end of the session. -/
def Stream.haltedBySession (st : Stream) : Prop := st.state = .halt ∧ st.haltCause = some .sessionEnd

namespace State

variable {s t : State} {p n : Nat} {i : Fin 4} {se : Session}

theorem streams_stopJob {cause : StopCause} (calm : cause.haltsRelease = false) (s : State) (n : Nat) :
    (s.stopJob n cause).streams = s.streams := by
  unfold stopJob
  split
  · rfl
  · split
    · dsimp only
      split
      · rw [if_neg (by simp [calm])]; rfl
      · rfl
    · rfl

theorem stopsOnly_endBoxJob (s : State) (n : Nat) : s.StopsOnly (s.endBoxJob n) := by
  unfold endBoxJob
  dsimp only
  split
  · exact (s.stopsOnly_stopJob n .sessionEnd).trans (stopsOnly_halt _ _ (by decide))
  · exact s.stopsOnly_stopJob n .sessionEnd

theorem job_endBoxJob (s : State) (n m : Nat) :
    (s.endBoxJob n).job m = if m = n then (s.job m).map (·.stopped .sessionEnd) else s.job m := by
  unfold endBoxJob
  dsimp only
  split
  · rw [job_halt, job_stopJob]
  · exact job_stopJob ..

theorem endBoxJob_stream_kept (other : (s.job n).bind (·.stream) ≠ some i) : (s.endBoxJob n).stream i = s.stream i := by
  have calm : (s.stopJob n .sessionEnd).stream i = s.stream i := congrArg (·.get i) (streams_stopJob rfl s n)
  unfold endBoxJob
  dsimp only
  split
  · next k bound => rw [halt_stream_other _ (fun same : i = k => other (same.symm ▸ bound)), calm]
  · exact calm

theorem stream_endBoxJob (s : State) (n : Nat) (i : Fin 4) :
    (s.endBoxJob n).stream i = s.stream i ∨ ((s.endBoxJob n).stream i).haltedBySession := by
  have calm : ∀ k, (s.stopJob n .sessionEnd).stream k = s.stream k := fun k =>
    congrArg (·.get k) (streams_stopJob rfl s n)
  by_cases bound : (s.job n).bind (·.stream) = some i
  · cases may : ((s.stopJob n .sessionEnd).stream i).mayHalt .sessionEnd with
    | false => left; simp only [endBoxJob, bound, halt_eq_self may, calm]
    | true =>
      right
      simp only [endBoxJob, bound, Stream.haltedBySession, halt_stream_same may]
      exact ⟨(enterHalt_state ..).1, (enterHalt_state ..).2.1⟩
  · exact Or.inl (endBoxJob_stream_kept bound)

/-- The jobs of the ended session's account stopped one by one. -/
def endBoxJobs (s : State) (numbers : List Nat) : State := numbers.foldl endBoxJob s

theorem stopsOnly_endBoxJobs (s : State) (numbers : List Nat) : s.StopsOnly (s.endBoxJobs numbers) :=
  StopsOnly.foldl stopsOnly_endBoxJob numbers s

theorem stream_endBoxJobs (numbers : List Nat) (s : State) (i : Fin 4) :
    (s.endBoxJobs numbers).stream i = s.stream i ∨ ((s.endBoxJobs numbers).stream i).haltedBySession := by
  induction numbers generalizing s with
  | nil => exact Or.inl rfl
  | cons n rest ih =>
    rcases stream_endBoxJob s n i with kept | halted
    · rcases ih (s.endBoxJob n) with same | later
      · exact Or.inl (same.trans kept)
      · exact Or.inr later
    · right
      have still : ((s.endBoxJob n).stream i).holdOrFlow = false := by
        simp [Stream.holdOrFlow, halted.1]
      rw [endBoxJobs, List.foldl_cons, ← endBoxJobs, (stopsOnly_endBoxJobs _ rest).streams i still]
      exact halted

theorem endBoxJobs_stream_kept {numbers : List Nat} (other : ∀ n ∈ numbers, (s.job n).bind (·.stream) ≠ some i) :
    (s.endBoxJobs numbers).stream i = s.stream i := by
  induction numbers generalizing s with
  | nil => rfl
  | cons n rest ih =>
    have later : ∀ m ∈ rest, ((s.endBoxJob n).job m).bind (·.stream) ≠ some i := by
      intro m mem same
      have maps := (s.stopsOnly_endBoxJob n).job_map (f := (·.stream)) (fun j c => by
        cases active : j.active with
        | true => rw [Job.stopped_of_active active]
        | false => rw [Job.stopped_of_inactive active]) m
      refine other m (List.mem_cons_of_mem _ mem) ?_
      rw [Option.bind_eq_some_iff] at same ⊢
      obtain ⟨j, present, stream⟩ := same
      rw [present] at maps
      obtain ⟨x, listed, equal⟩ := Option.map_eq_some_iff.mp maps.symm
      exact ⟨x, listed, equal.trans stream⟩
    exact (ih later).trans (endBoxJob_stream_kept (other n List.mem_cons_self))

/-- The session closed, with its notice. -/
def sessionClosed (s : State) (cause : SessionEndCause) (p : Nat) : State :=
  (s.setSession none).post (.sessionEnd cause (s.userNumber p))

/-- A BOX_PRINT job that has not ended. -/
def boxRuns (j : Job) : Bool := j.active && j.kind == .boxPrint

/-- The session closed and the BOX_PRINT jobs of its account stopped. -/
def sessionStopped (s : State) (cause : SessionEndCause) (p : Nat) : State :=
  (s.sessionClosed cause p).endBoxJobs (s.jobNumbers p boxRuns)

theorem endSession_eq (active : s.session = some se) (cause : SessionEndCause) :
    s.endSession cause = (s.sessionStopped cause se.position).haltAll .sessionEnd
      (fourIndices.filter ((s.sessionStopped cause se.position).releaseOf se.position)) := by
  rw [endSession, active]; rfl

theorem endSession_none (closed : s.session = none) (cause : SessionEndCause) : s.endSession cause = s := by
  rw [endSession, closed]

theorem stopsOnly_sessionStopped (s : State) (cause : SessionEndCause) (p : Nat) :
    (s.sessionClosed cause p).StopsOnly (s.sessionStopped cause p) := stopsOnly_endBoxJobs ..

theorem stopsOnly_endSession (active : s.session = some se) (cause : SessionEndCause) :
    (s.sessionClosed cause se.position).StopsOnly (s.endSession cause) := by
  rw [endSession_eq active]
  exact (s.stopsOnly_sessionStopped cause se.position).trans (stopsOnly_haltAll _ (by decide) _)

theorem session_endSession (s : State) (cause : SessionEndCause) : (s.endSession cause).session = none := by
  cases active : s.session with
  | none => rw [endSession_none active, active]
  | some se => exact (stopsOnly_endSession active cause).session

theorem accounts_endSession (s : State) (cause : SessionEndCause) : (s.endSession cause).accounts = s.accounts := by
  have jobs : ∀ (numbers : List Nat) (t : State), (t.endBoxJobs numbers).accounts = t.accounts := by
    intro numbers
    induction numbers with
    | nil => exact fun t => rfl
    | cons n rest ih =>
      intro t
      refine (ih _).trans ?_
      unfold endBoxJob
      dsimp only
      split
      · exact (halt_images _ _).accounts.trans (stopJob_images n _).accounts
      · exact (stopJob_images n _).accounts
  cases active : s.session with
  | none => rw [endSession_none active]
  | some se =>
    rw [endSession_eq active, (haltAll_images _ _ _).accounts]
    exact jobs _ _

theorem job_haltAll (cause : HaltCause) (l : List (Fin 4)) (s : State) (n : Nat) : (s.haltAll cause l).job n = s.job n := by
  induction l generalizing s with
  | nil => rfl
  | cons i rest ih => exact (ih _).trans (job_halt s i cause n)

theorem job_endSession (active : s.session = some se) (order : s.jobs.InOrder) (cause : SessionEndCause) {j : Job}
    (present : s.job n = some j) :
    (s.endSession cause).job n = some (if j.owner = se.position ∧ boxRuns j = true then j.stopped .sessionEnd else j) := by
  have listed : n ∈ s.jobNumbers se.position boxRuns ↔ j.owner = se.position ∧ boxRuns j = true := by
    rw [mem_jobNumbers order, present]
    exact ⟨fun ⟨x, same, meets⟩ => Option.some.inj same ▸ meets, fun meets => ⟨j, rfl, meets⟩⟩
  have here : (s.sessionClosed cause se.position).job n = some j := present
  rw [endSession_eq active, job_haltAll, sessionStopped, endBoxJobs, job_foldl_stopped job_endBoxJob, here]
  by_cases meets : j.owner = se.position ∧ boxRuns j = true
  · rw [if_pos (listed.mpr meets), if_pos meets]; rfl
  · rw [if_neg (mt listed.mp meets), if_neg meets]

theorem told_endSession (active : s.session = some se) (cause : SessionEndCause)
    (room : s.link.notices.length < 64 ∨
      ∃ h ∈ s.link.notices, h.key = (Notice.sessionEnd cause (s.userNumber se.position)).key) :
    .sessionEnd cause (s.userNumber se.position) ∈ (s.endSession cause).link.notices :=
  (stopsOnly_endSession active cause).notices _ (Link.mem_post_self (fun h => by cases h <;> rfl) room) rfl

theorem owner_sessionStopped (s : State) (cause : SessionEndCause) (p m : Nat) :
    ((s.sessionStopped cause p).job m).map (·.owner) = (s.job m).map (·.owner) :=
  (s.stopsOnly_sessionStopped cause p).job_map (fun j c => by
    cases active : j.active with
    | true => rw [Job.stopped_of_active active]
    | false => rw [Job.stopped_of_inactive active]) m

/-- Every RELEASE stream in HOLD or FLOW on a job of the account halts. -/
theorem endSession_stream_halts (active : s.session = some se) (cause : SessionEndCause) {j : Job}
    (kind : (s.stream i).kind = some .release) (runs : (s.stream i).holdOrFlow = true) (bound : (s.stream i).job = some n)
    (present : s.job n = some j) (owner : j.owner = se.position) : ((s.endSession cause).stream i).haltedBySession := by
  rw [endSession_eq active]
  rcases stream_endBoxJobs (s.jobNumbers se.position boxRuns) (s.sessionClosed cause se.position) i with kept | halted
  · have stream : (s.sessionStopped cause se.position).stream i = s.stream i := kept
    have owners := s.owner_sessionStopped cause se.position n
    rw [present] at owners
    have listed : (s.sessionStopped cause se.position).releaseOf se.position i = true := by
      simp [releaseOf, stream, kind, runs, bound, owners, owner]
    have may : ((s.sessionStopped cause se.position).stream i).mayHalt .sessionEnd = true := by
      rw [stream]; simp [Stream.mayHalt, runs]
    obtain ⟨w, stops⟩ := stream_haltAll_halted (List.mem_filter.mpr ⟨mem_fourIndices i, listed⟩) may
    rw [stops]
    exact ⟨(enterHalt_state ..).1, (enterHalt_state ..).2.1⟩
  · have still : ((s.sessionStopped cause se.position).stream i).holdOrFlow = false := by
      have state := halted.1
      simp [Stream.holdOrFlow, sessionStopped, state]
    rw [(stopsOnly_haltAll _ (by decide) _).streams i still]
    exact halted

/-- A stream that is bound to no job of the account is untouched. -/
theorem endSession_stream_kept (active : s.session = some se) (cause : SessionEndCause) (matched : s.BindingsMatch)
    (other : (s.stream i).kind ≠ some .release ∨
      ∀ n j, (s.stream i).job = some n → s.job n = some j → j.owner ≠ se.position) :
    (s.endSession cause).stream i = s.stream i := by
  have avoided : ∀ n ∈ s.jobNumbers se.position boxRuns, (s.job n).bind (·.stream) ≠ some i := by
    intro n mem names
    obtain ⟨j, present, owner, runs⟩ := (mem_jobNumbers matched.inOrder).mp mem
    rw [present] at names
    obtain ⟨bound, kind, _, _⟩ := matched.jobs n j i present names
    have box : j.kind = .boxPrint := by simpa using (Bool.and_eq_true_iff.mp runs).2
    rw [box] at kind
    rcases other with no | foreign
    · exact no kind
    · exact foreign n j bound present owner
  have kept : (s.sessionStopped cause se.position).stream i = s.stream i :=
    endBoxJobs_stream_kept (s := s.sessionClosed cause se.position) avoided
  have unlisted : i ∉ fourIndices.filter ((s.sessionStopped cause se.position).releaseOf se.position) := by
    intro mem
    have listed := (List.mem_filter.mp mem).2
    simp only [releaseOf, kept, Bool.and_eq_true, beq_iff_eq, Option.map_eq_some_iff, Option.bind_eq_some_iff] at listed
    obtain ⟨⟨kind, _⟩, x, ⟨n, bound, present⟩, owner⟩ := listed
    have owners := s.owner_sessionStopped cause se.position n
    rw [present] at owners
    obtain ⟨j, there, same⟩ := Option.map_eq_some_iff.mp owners.symm
    rcases other with no | foreign
    · exact no kind
    · exact foreign n j bound there (same.trans owner)
  rw [endSession_eq active, stream_haltAll_kept (Or.inl unlisted), kept]

end State

/-- What the end of the session does, whatever asks for it: the statement of O12 about the state that it leaves. -/
theorem endSession_stops {s : State} {se : Session} (active : s.session = some se) (order : s.jobs.InOrder)
    {matched : Prop} (binds : matched → s.BindingsMatch) (cause : SessionEndCause) :
    let told := Notice.sessionEnd cause (s.userNumber se.position)
    let u := s.endSession cause
    u.session = none ∧
      (s.link.notices.length < 64 ∨ (∃ h ∈ s.link.notices, h.key = told.key) → told ∈ u.link.notices) ∧
      (∀ n j, s.job n = some j → j.owner = se.position → j.kind = .boxPrint → j.active = true →
        u.job n = some { j with state := .stopping, stopCause := some .sessionEnd }) ∧
      (∀ n j, s.job n = some j → j.owner ≠ se.position ∨ j.kind ≠ .boxPrint ∨ j.active = false → u.job n = some j) ∧
      (∀ i n j, (s.stream i).kind = some .release → (s.stream i).holdOrFlow = true → (s.stream i).job = some n →
        s.job n = some j → j.owner = se.position →
        (u.stream i).state = .halt ∧ (u.stream i).haltCause = some .sessionEnd) ∧
      (∀ i, (s.stream i).holdOrFlow = false → u.stream i = s.stream i) ∧
      (matched → ∀ i, (s.stream i).kind ≠ some .release ∨
          (∀ n j, (s.stream i).job = some n → s.job n = some j → j.owner ≠ se.position) → u.stream i = s.stream i) ∧
      u.accounts = s.accounts ∧ u.house = s.house ∧ u.rates = s.rates ∧ u.settings = s.settings ∧ u.meters = s.meters ∧
      u.queue = s.queue ∧ u.cart = s.cart ∧ u.store = s.store ∧ u.tamper = s.tamper ∧ u.pool.mem = s.pool.mem ∧
      u.pool.wipe = s.pool.wipe := by
  have only := State.stopsOnly_endSession active cause
  refine ⟨s.session_endSession cause, State.told_endSession active cause, fun n j present owner box runs => ?_,
    fun n j present other => ?_, fun i n j kind runs bound present owner =>
      State.endSession_stream_halts active cause kind runs bound present owner, only.streams,
    fun matched i other => State.endSession_stream_kept active cause (binds matched) other,
    State.accounts_endSession s cause, only.house, only.rates, only.settings, only.meters, only.queue, only.cart, only.store,
    only.tamper, only.mem, only.wipe⟩
  · rw [State.job_endSession active order cause present, if_pos ⟨owner, by simp [State.boxRuns, box, runs]⟩,
      Job.stopped_of_active runs]
  · rw [State.job_endSession active order cause present, if_neg]
    rintro ⟨owner, runs⟩
    obtain ⟨active, box⟩ := Bool.and_eq_true_iff.mp runs
    rcases other with foreign | kind | still
    · exact foreign owner
    · exact kind (by simpa using box)
    · rw [still] at active; cases active

/-- Settles O12. -/
theorem sessionEndStopsReleases : Obligations.SessionEndStopsReleases := by
  intro s se outside active order cause asked
  dsimp only
  rcases asked with ⟨rfl, free⟩ | rfl
  · refine ⟨(s.used se).endSession .logout, fun _ => ?_, fun other => SessionEndCause.noConfusion other, ?_⟩
    · exact requestFrame_ok ⟨outside, free⟩ (asSession_some active fun _ t => okWith (t.endSession .logout) [])
    · exact endSession_stops (s := s.used se) rfl order (s.steady_setSession _).keeps.bindingsMatch .logout
  · refine ⟨s.endSession .idle, fun other => SessionEndCause.noConfusion other, fun _ => ?_,
      endSession_stops active order id .idle⟩
    exact congrArg Host.Outcome.next (outsideReset_out outside _)

end Sys2Proof.Machine
end

section
/-! PROOFS. The account requests: O11, O13, O14, O15. -/

namespace Sys2Proof.Machine

section Users
variable {s : State} {user : Nat}

theorem withUser_found {p : Nat} {a : Account} (low : 1 ≤ user) (high : user ≤ 99999999) (found : s.findUser user = some (p, a))
    (serve : Nat → Account → Served) : withUser s user serve = serve p a := by
  rw [withUser, if_pos ((userInRange_iff user).mpr ⟨low, high⟩), found]

theorem withUser_missing (low : 1 ≤ user) (high : user ≤ 99999999) (missing : s.findUser user = none)
    (serve : Nat → Account → Served) : withUser s user serve = refuse s .noAccount := by
  rw [withUser, if_pos ((userInRange_iff user).mpr ⟨low, high⟩), missing]

theorem withUser_above (high : 99999999 < user) (serve : Nat → Account → Served) :
    withUser s user serve = refuse s .range := by
  have outside : ¬ userInRange user = true := fun range => by
    have := ((userInRange_iff user).mp range).2; omega
  rw [withUser, if_neg outside]

end Users

/-! ## The reads that restart the idle timer -/

theorem State.documentsReply_used {s : State} {se : Session} (active : s.session = some se) :
    (s.used se).documentsReply se = s.documentsReply se := by
  have admin := State.isAdmin_used active
  have bytes : (s.used se).documentBytes = s.documentBytes := by
    funext d; rw [State.documentBytes, admin]; rfl
  have listed : (s.used se).listedDocuments se = s.listedDocuments se := by rw [State.listedDocuments, admin]; rfl
  rw [State.documentsReply, bytes, listed]; rfl

/-- ACCOUNT READ by one who may ask reads as from the touched session. -/
theorem serveAccountRead_allowed {s : State} {se : Session} {user : Nat} (fits : user < 4294967296)
    (active : s.session = some se)
    (allowed : s.isAdmin = true ∨ (s.account se.position).map (·.userNumber) = some user) :
    serveAccountRead (be 4 user) s = (s.used se).readAccount user := by
  have spells : parseNumber 4 (be 4 user) = some user := parseNumber_be fits
  have authority : (s.isAdmin || (s.account se.position).map (·.userNumber) == some user) = true := by
    simpa using allowed
  have touched : s.touchSession = s.used se := s.touchSession_some active
  simp only [serveAccountRead, spells, withParsed_some, active]
  rw [if_pos authority, touched]

theorem serveAccountRead_foreign {s : State} {se : Session} {user : Nat} (fits : user < 4294967296)
    (active : s.session = some se) (other : s.isAdmin = false)
    (foreign : (s.account se.position).map (·.userNumber) ≠ some user) :
    serveAccountRead (be 4 user) s = refuse s .notPermitted := by
  have spells : parseNumber 4 (be 4 user) = some user := parseNumber_be fits
  have authority : ¬ (s.isAdmin || (s.account se.position).map (·.userNumber) == some user) = true := by
    simpa [other] using foreign
  simp only [serveAccountRead, spells, withParsed_some, active]
  rw [if_neg authority]

theorem readAccount_user {s : State} {user : Nat} (low : 1 ≤ user) :
    s.readAccount user = withUser s user fun p a => okWith s (s.accountReply p a) := if_neg (by omega)

/-- Settles O11. -/
theorem sessionReadsChangeOnlyTheTimer : Obligations.SessionReadsChangeOnlyTheTimer := by
  refine ⟨fun s se serving active => requestFrame_ok serving (asSession_some active fun _ t => okWith t []),
    fun s se serving active => ⟨fun user p a low high found allowed => ?_, fun admin => ?_, fun user fits other foreign => ?_,
      fun user fits admin => ⟨fun high => ?_, fun low high missing => ?_⟩, fun admin => ?_, ?_⟩⟩
  · refine requestFrame_ok serving ((serveAccountRead_allowed (by omega) active allowed).trans ?_)
    rw [readAccount_user low]
    exact withUser_found (s := s.used se) low high found _
  · exact requestFrame_ok serving (serveAccountRead_allowed (user := 0) (by decide) active (Or.inl admin))
  · exact requestFrame_no serving (serveAccountRead_foreign fits active other foreign)
  · refine requestFrame_no serving ((serveAccountRead_allowed fits active (Or.inl admin)).trans ?_)
    rw [readAccount_user (by omega)]
    exact withUser_above high _
  · refine requestFrame_no serving ((serveAccountRead_allowed fits active (Or.inl admin)).trans ?_)
    rw [readAccount_user low]
    exact withUser_missing (s := s.used se) low high missing _
  · exact requestFrame_ok serving (asAdmin_admin active admin fun t => okWith t t.snapshotsReply)
  · refine requestFrame_ok serving ((asSession_some active fun se t => okWith t (t.documentsReply se)).trans ?_)
    rw [State.documentsReply_used active]

/-! ## Accounts come and go -/

theorem State.freePosition_eq {s : State} {p : Nat} (low : 1 ≤ p) (high : p ≤ 192) (free : s.account p = none)
    (below : ∀ q, 1 ≤ q → q < p → (s.account q).isSome = true) : s.freePosition = some p := by
  rw [State.freePosition, List.find?_map, Option.map_eq_some_iff]
  refine ⟨p - 1, List.find?_range_eq_some.mpr ⟨?_, ?_, fun j less => ?_⟩, by omega⟩
  · have back : p - 1 + 1 = p := by omega
    simp only [Function.comp, back, free]; rfl
  · rw [List.mem_range]; show p - 1 < 192; omega
  · have taken := below (j + 1) (by omega) (by omega)
    simpa [Function.comp] using taken

theorem PinField.value_eq {field : PinField} {pin : Option (List Byte)}
    (good : field = .absent ∧ pin = none ∨ ∃ d, field = .digits d ∧ pin = some d) : field.value = some pin := by
  rcases good with ⟨rfl, rfl⟩ | ⟨d, rfl, rfl⟩ <;> rfl

theorem State.addAccount_accepted {s : State} {r : AddRequest} {pin : Option (List Byte)} {p : Nat} (low : 1 ≤ r.user)
    (high : r.user ≤ 99999999) (value : r.pin.value = some pin) (new : s.findUser r.user = none)
    (position : s.freePosition = some p) :
    s.addAccount r = okWith (s.setAccounts (Table.put s.accounts p (r.account pin s.settings))) [BitVec.ofNat 8 p] := by
  rw [State.addAccount, if_pos ((userInRange_iff r.user).mpr ⟨low, high⟩), value]
  dsimp only
  rw [new, if_neg (by decide), position]
  dsimp only
  rw [be_one]

theorem parseNumber_user {user : Nat} (high : user ≤ 99999999) : parseNumber 4 (be 4 user) = some user :=
  parseNumber_be (by omega)

theorem sessionOn_used (s : State) (se : Session) (p : Nat) : (s.used se).sessionOn p = (se.position == p) := by
  simp [State.sessionOn, State.used]

/-- ACCOUNT REMOVE of a present account by an admin. -/
theorem serveAccountRemove_found {s : State} {se : Session} {user p : Nat} {a : Account} (active : s.session = some se)
    (admin : s.isAdmin = true) (low : 1 ≤ user) (high : user ≤ 99999999) (found : s.findUser user = some (p, a))
    (others : s.onlyAdmin p = false) :
    serveAccountRemove (be 4 user) s =
      if s.jobsOf p != [] || se.position == p then refuse (s.used se) .inUse
      else okWith ((s.used se).removeAccount p) (be 1 (s.documentsOf p).length) := by
  rw [serveAccountRemove, parseNumber_user high, withParsed_some, asAdmin_admin active admin,
    withUser_found (s := s.used se) low high found, if_neg, sessionOn_used]
  · rfl
  · show ¬ s.onlyAdmin p = true
    rw [others]; exact Bool.false_ne_true

/-- Settles O13. -/
theorem accountsComeAndGo : Obligations.AccountsComeAndGo := by
  refine ⟨fun s se b r pin p serving active admin spells low high good new first last free below => ?_,
    fun s se user p a serving active admin low high found others => ⟨fun ⟨jobless, elsewhere⟩ => ?_, fun busy => ?_⟩⟩
  · refine requestFrame_ok serving ?_
    rw [serveAccountAdd, spells, withParsed_some, asAdmin_admin active admin]
    exact State.addAccount_accepted (s := s.used se) low high (PinField.value_eq good) new
      (State.freePosition_eq (s := s.used se) first last free below)
  · refine requestFrame_ok serving ((serveAccountRemove_found active admin low high found others).trans ?_)
    rw [if_neg (by simp [jobless, elsewhere]), be_one]
    rfl
  · refine requestFrame_no serving ((serveAccountRemove_found active admin low high found others).trans (if_pos ?_))
    rcases busy with owns | here
    · simp [owns]
    · simp [here]

/-! ## ACCOUNT CHANGE and ACCOUNT UNLOCK -/

theorem PinAction.value_eq {action : PinAction} {present pin : Option (List Byte)}
    (good : action = .keep ∧ pin = present ∨ action = .remove ∧ pin = none ∨ ∃ d, action = .set (.digits d) ∧ pin = some d) :
    action.value present = some pin ∧ (action.value none).isSome = true := by
  rcases good with ⟨rfl, rfl⟩ | ⟨rfl, rfl⟩ | ⟨d, rfl, rfl⟩ <;> exact ⟨rfl, rfl⟩

theorem ChangeRequest.clearsFailures_iff (r : ChangeRequest) (old : AccountState) :
    r.clearsFailures old = true ↔ r.action ≠ .keep ∨ (old = .locked ∧ r.state ≠ .locked) := by
  simp [ChangeRequest.clearsFailures]

theorem Account.changed_eq (r : ChangeRequest) (pin : Option (List Byte)) : (fun a : Account => a.changed r pin) =
    fun x => { x with
      role := r.role, state := r.state, colourRight := r.colourRight, boxRight := r.boxRight, pin := pin,
      failures := if r.action ≠ .keep ∨ (x.state = .locked ∧ r.state ≠ .locked) then 0 else x.failures } := by
  funext x
  rw [Account.changed]
  congr 1
  exact if_congr (r.clearsFailures_iff x.state) rfl rfl

theorem State.changeFields_accepted {s : State} {r : ChangeRequest} {p : Nat} {a : Account} {pin : Option (List Byte)}
    (low : 1 ≤ r.user) (high : r.user ≤ 99999999) (found : s.findUser r.user = some (p, a))
    (others : s.onlyAdmin p = false ∨ r.role = .admin) (value : r.action.value a.pin = some pin)
    (range : (r.action.value none).isSome = true) : s.changeFields r = okWith (s.applyChange p r pin) [] := by
  have good : (userInRange r.user && (r.action.value none).isSome) = true := by
    rw [range, (userInRange_iff r.user).mpr ⟨low, high⟩]; rfl
  have stays : ¬ (s.onlyAdmin p && r.role == .user) = true := by
    rcases others with no | admin
    · simp [no]
    · simp [admin]
  rw [State.changeFields, if_pos good, found]
  dsimp only
  rw [if_neg stays, value]

theorem serveAccountUnlock_found {s : State} {se : Session} {user p : Nat} {a : Account} (active : s.session = some se)
    (admin : s.isAdmin = true) (low : 1 ≤ user) (high : user ≤ 99999999) (found : s.findUser user = some (p, a)) :
    serveAccountUnlock (be 4 user) s =
      if a.state = .suspended then refuse (s.used se) .suspended
      else okWith ((s.used se).changeAccount p fun x => { x with state := .active, failures := 0 }) [0] := by
  rw [serveAccountUnlock, parseNumber_user high, withParsed_some, asAdmin_admin active admin,
    withUser_found (s := s.used se) low high found]
  cases a.state <;> rfl

/-- Settles O14. -/
theorem accountChangeReplacesFields : Obligations.AccountChangeReplacesFields := by
  refine ⟨fun s se b r p a pin serving active admin spells low high found others good => ?_,
    fun s se user p a serving active admin low high found => ⟨fun usable => ?_, fun suspended => ?_⟩⟩
  · obtain ⟨value, range⟩ := PinAction.value_eq good
    have served : serveAccountChange b s = okWith ((s.used se).applyChange p r pin) [] := by
      rw [serveAccountChange, spells, withParsed_some, asAdmin_admin active admin]
      exact State.changeFields_accepted (s := s.used se) low high found others value range
    have applied : (s.used se).applyChange p r pin =
        if se.position == p && r.state != .active
        then ((s.used se).changeAccount p fun a => a.changed r pin).endSession .accountChange
        else (s.used se).changeAccount p fun a => a.changed r pin := by
      rw [State.applyChange]
      exact if_congr (by rw [← sessionOn_used s se p]; rfl) rfl rfl
    rw [Account.changed_eq] at applied
    refine ⟨fun stays => ?_, fun own inactive => ⟨?_, State.session_endSession ..⟩⟩
    · refine requestFrame_ok serving (served.trans ?_)
      rw [applied, if_neg]
      rcases stays with elsewhere | still
      · simp [elsewhere]
      · simp [still]
    · refine requestFrame_ok serving (served.trans ?_)
      rw [applied, if_pos (by simp [own, inactive])]
  · refine requestFrame_ok serving ((serveAccountUnlock_found active admin low high found).trans (if_neg usable))
  · refine requestFrame_no serving ((serveAccountUnlock_found active admin low high found).trans (if_pos suspended))

/-! ## CREDIT -/

/-- What a CREDIT writes into its account. -/
def Account.credited (a : Account) (r : CreditRequest) (available : Nat) : Account :=
  { a with
    balance := creditBalance r.subtract a.balance available (min r.amount Config.maxMoney)
    arrears := if r.clearArrears then 0 else a.arrears }

theorem State.applyCredit_eq (s : State) (p : Nat) (a : Account) (r : CreditRequest) :
    s.applyCredit p a r =
      if creditApplied r.subtract a.balance (s.available p) (min r.amount Config.maxMoney) = 0
      then s.changeAccount p fun a => a.credited r (s.available p)
      else (s.changeAccount p fun a => a.credited r (s.available p)).reevaluate p := rfl

theorem State.stopsOnly_applyCredit (s : State) (p : Nat) (a : Account) (r : CreditRequest) :
    (s.changeAccount p fun a => a.credited r (s.available p)).StopsOnly (s.applyCredit p a r) := by
  rw [State.applyCredit_eq]
  split
  · exact .refl _
  · exact State.stopsOnly_reevaluate ..

theorem State.account_applyCredit_other {s : State} {p q : Nat} (other : q ≠ p) (a : Account) (r : CreditRequest) :
    (s.applyCredit p a r).account q = s.account q := by
  have changed : (s.changeAccount p fun a => a.credited r (s.available p)).account q = s.account q := by
    rw [State.account_changeAccount, if_neg other]
  rw [State.applyCredit_eq]
  split
  · exact changed
  · rw [State.account_reevaluate_other other, changed]

theorem State.available_of_account {s : State} {p : Nat} {a : Account} (present : s.account p = some a) :
    s.available p = a.balance - s.totalHolds p := by
  rw [State.available, present]; rfl

/-- Settles O15. -/
theorem creditMovesTheBalance : Obligations.CreditMovesTheBalance := by
  intro s se b r p a serving active admin spells low high found present
  have only := (s.used se).stopsOnly_applyCredit p a r
  have changed : ((s.used se).changeAccount p fun a => a.credited r ((s.used se).available p)).account p =
      some (a.credited r ((s.used se).available p)) := by
    rw [State.account_changeAccount, if_pos rfl]
    exact congrArg (Option.map _) present
  have room : (s.used se).available p = a.balance - s.totalHolds p := State.available_of_account (s := s.used se) present
  obtain ⟨x, listed, same⟩ := only.account_some changed
  rw [room] at same
  obtain ⟨balance, arrears, pin, state, role, counters⟩ := Account.fields_of_unstaged same
  refine ⟨(s.used se).applyCredit p a r, x, (s.used se).creditReply ((s.used se).applyCredit p a r) p a r,
    requestFrame_ok serving ?_, listed, balance, arrears, pin, state, role, counters,
    fun q other => State.account_applyCredit_other other a r, only.totalHolds, only.session, only.house, only.rates, only.settings,
    only.meters, only.queue, only.cart, only.store, only.mem⟩
  rw [serveCredit, spells, withParsed_some, asAdmin_admin active admin, withUser_found (s := s.used se) low high found]

end Sys2Proof.Machine
end

section
/-! PROOFS. The rate and area tables (O16, O18). -/

namespace Sys2Proof.Machine

theorem toNat_be_one {n : Nat} (fits : n < 256) : (BitVec.ofNat 8 n).toNat = n := by
  rw [BitVec.toNat_ofNat]; omega

theorem be_two (n : Nat) : be 2 n = [BitVec.ofNat 8 (n / 256), BitVec.ofNat 8 n] := by simp [be]

/-- The value taken differs from the value sent exactly where the clamp moves it. -/
theorem flag_clamped {taken sent : Nat} {moved : Prop} [Decidable moved] (differs : taken ≠ sent ↔ moved) :
    flag (taken != sent) = flag (decide moved) := by
  have same : (taken != sent) = decide moved := by
    rw [Bool.eq_iff_iff, bne_iff_ne, decide_eq_true_iff, differs]
  rw [same]

theorem parseRateSet_print {n : Nat} (base step : Nat) (fits : n < 256) :
    parseRateSet (be 1 0 ++ be 1 n ++ be 2 base ++ be 2 step) =
      some { target := .print n, first := num (be 2 base), step := num (be 2 step) } := by
  have layout : parseRateSet (be 1 0 ++ be 1 n ++ be 2 base ++ be 2 step) =
      some { target := .print (BitVec.ofNat 8 (n / 256 ^ 0)).toNat, first := num (be 2 base), step := num (be 2 step) } := rfl
  rw [layout, pow_zero, Nat.div_one, toNat_be_one fits]

theorem num_be_of_lt {n v : Nat} (fits : v < 256 ^ n) : num (be n v) = v := by rw [num_be, Nat.mod_eq_of_lt fits]

theorem num_be_two {v : Nat} (fits : v < 65536) : num (be 2 v) = v := num_be_of_lt fits

theorem sizeClassOf_be (c : Fin 8) : sizeClassOf (BitVec.ofNat 8 (c.val / 256 ^ 0)) = some c := by
  have value : (BitVec.ofNat 8 (c.val / 256 ^ 0)).toNat = c.val := by
    rw [pow_zero, Nat.div_one, toNat_be_one (by omega)]
  simp only [sizeClassOf, value, c.isLt, dif_pos]

theorem parseRateSet_scan (c : Fin 8) {rate : Nat} (step : Nat) (rateFits : rate < 65536) :
    parseRateSet (be 1 1 ++ be 1 c.val ++ be 2 rate ++ be 2 step) =
      some { target := .scan c, first := rate, step := num (be 2 step) } := by
  have layout : parseRateSet (be 1 1 ++ be 1 c.val ++ be 2 rate ++ be 2 step) =
      (sizeClassOf (BitVec.ofNat 8 (c.val / 256 ^ 0))).map fun c =>
        { target := .scan c, first := num (be 2 rate), step := num (be 2 step) } := rfl
  rw [layout, sizeClassOf_be, num_be_two rateFits]; rfl

theorem parseAreaSet_be (c : Fin 8) {v : Nat} (fits : v < 4294967296) :
    parseAreaSet (be 1 c.val ++ be 4 v) = some { size := c, value := v } := by
  have layout : parseAreaSet (be 1 c.val ++ be 4 v) =
      (sizeClassOf (BitVec.ofNat 8 (c.val / 256 ^ 0))).map fun c => { size := c, value := num (be 4 v) } := rfl
  rw [layout, sizeClassOf_be, num_be_of_lt (n := 4) fits]; rfl

section Served
variable {s : State} {se : Session} {b : List Byte}

theorem serveRateSet_print {n : Nat} {r : RateSetRequest} (active : s.session = some se) (admin : s.isAdmin = true)
    (spells : parseRateSet b = some r) (target : r.target = .print n) :
    serveRateSet b s = (s.used se).setPrintRate n r := by
  rw [serveRateSet, spells, withParsed_some, asAdmin_admin active admin, target]

theorem serveRateSet_scan {c : Fin 8} {r : RateSetRequest} (active : s.session = some se) (admin : s.isAdmin = true)
    (spells : parseRateSet b = some r) (target : r.target = .scan c) :
    serveRateSet b s = (s.used se).setScanRate c r := by
  rw [serveRateSet, spells, withParsed_some, asAdmin_admin active admin, target]

end Served

/-- Settles O16. -/
theorem rateAndAreaSetClamp : Obligations.RateAndAreaSetClamp := by
  intro s se serving active admin
  refine ⟨fun n base step low baseFits stepFits => requestFrame_ok serving ?_,
    fun n base step above fits => ?_, fun c rate step fits => requestFrame_ok serving ?_,
    fun c v fits => requestFrame_ok serving ?_⟩
  · rw [serveRateSet_print active admin (parseRateSet_print base step (by omega)) rfl, num_be_two baseFits, num_be_two stepFits,
      State.setPrintRate, if_pos low,
      ← flag_clamped (taken := min base 9999) (sent := base) (by omega),
      ← flag_clamped (taken := min step 999) (sent := step) (by omega)]
    rfl
  · refine requestFrame_no serving ?_
    rw [serveRateSet_print active admin (parseRateSet_print base step fits) rfl, State.setPrintRate, if_neg (by omega)]
  · rw [serveRateSet_scan active admin (parseRateSet_scan c step fits) rfl, State.setScanRate,
      ← flag_clamped (taken := min rate 9999) (sent := rate) (by omega)]
    rfl
  · rw [serveAreaSet, parseAreaSet_be c fits, withParsed_some, asAdmin_admin active admin,
      ← flag_clamped (taken := max 1 (min v 1000000)) (sent := v) (by omega)]
    rfl

/-! ## RATE QUOTE -/

theorem sheetCharge_simplex (r : Rates) (free : Nat) {sheet : SheetRecord} (simplex : sheet.side2 = none) :
    sheetCharge r free sheet = { charge := (sideCharge r free sheet.sizeClass .front sheet.side1).charge,
                                 sides := [sideCharge r free sheet.sizeClass .front sheet.side1] } := by
  rw [sheetCharge, simplex]

theorem sheetCharge_duplex (r : Rates) (free : Nat) {sheet : SheetRecord} {d : Dots} (duplex : sheet.side2 = some d) :
    sheetCharge r free sheet =
      { charge := (sideCharge r free sheet.sizeClass .front sheet.side1).charge
          + (sideCharge r free sheet.sizeClass .back d).charge
        sides := [sideCharge r free sheet.sizeClass .front sheet.side1, sideCharge r free sheet.sizeClass .back d] } := by
  rw [sheetCharge, duplex]

theorem sideCharge_le (r : Rates) (free size : Nat) (p : SidePosition) (d : Dots) :
    (sideCharge r free size p d).charge ≤ 65535 := Nat.min_le_left ..

/-- Settles O18. -/
theorem rateQuotePricesWithoutSettling : Obligations.RateQuotePricesWithoutSettling := by
  intro s b sheet serving spells
  refine ⟨s.priceSheet sheet, answers_open serving (parsed := parseRateQuote b)
    (by rw [serveRateQuote, spells]; rfl) (by rw [spells]; rfl), fun simplex => ?_, fun d duplex => ?_, ?_, ?_⟩
  · rw [State.priceSheet, sheetCharge_simplex _ _ simplex]
  · rw [State.priceSheet, sheetCharge_duplex _ _ duplex]
  · cases sides : sheet.side2 with
    | none => rw [State.priceSheet, sheetCharge_simplex _ _ sides]; rfl
    | some d => rw [State.priceSheet, sheetCharge_duplex _ _ sides]; rfl
  · have front := sideCharge_le s.rates s.settings.freeCoverage sheet.sizeClass .front sheet.side1
    cases sides : sheet.side2 with
    | none =>
      rw [State.priceSheet, sheetCharge_simplex _ _ sides]
      exact front.trans (by decide)
    | some d =>
      rw [State.priceSheet, sheetCharge_duplex _ _ sides]
      exact Nat.add_le_add front (sideCharge_le s.rates s.settings.freeCoverage sheet.sizeClass .back d)

end Sys2Proof.Machine
end

section
/-! PROOFS. JOB OPEN (O19, O20): the checks in their order, the number, the hold, and the document of the job. -/

namespace Sys2Proof.Machine

/-! ## Checks taken in order -/

/-- The rows of a statement say what the rows of the model compute. -/
def SameRows (props : List (Prop × Status)) (rows : List (Bool × Status)) : Prop :=
  List.Forall₂ (fun x y => (x.1 ↔ y.1 = true) ∧ x.2 = y.2) props rows

theorem firstApplies_of_rows {props : List (Prop × Status)} {rows : List (Bool × Status)} {answered : Status → Prop}
    (same : SameRows props rows) (answers : ∀ st, firstRefusal rows = some st → answered st) :
    firstApplies props answered := by
  induction same with
  | nil => trivial
  | @cons x y props rows both _ ih =>
    obtain ⟨means, status⟩ := both
    refine (firstApplies_cons _ _ _ _).mpr ⟨fun holds => ?_, fun fails => ih fun st refuses => ?_⟩
    · rw [status]
      exact answers y.2 (by rw [firstRefusal, if_pos (means.mp holds)])
    · exact answers st (by rw [firstRefusal, if_neg (mt means.mpr fails), refuses])

theorem firstRefusal_append (rows more : List (Bool × Status)) :
    firstRefusal (rows ++ more) = (firstRefusal rows).or (firstRefusal more) := by
  induction rows with
  | nil => rfl
  | cons x rest ih =>
    rw [List.cons_append, firstRefusal, firstRefusal]
    split
    · rfl
    · exact ih

/-! ## Who opens -/

theorem rangesGood_of_estimate {r : OpenRequest} (low : 1 ≤ r.estimate) (high : r.estimate ≤ 9999)
    (kind : r.kind = .copy ∨ r.kind = .scan ∨ r.kind = .print ∧ 1 ≤ r.user ∧ r.user ≤ 99999999) : r.rangesGood = true := by
  have estimate : decide (1 ≤ r.estimate ∧ r.estimate ≤ maxEstimate) = true := decide_eq_true ⟨low, high⟩
  rcases kind with kind | kind | ⟨kind, range⟩
  · rw [OpenRequest.rangesGood, kind]; exact estimate
  · rw [OpenRequest.rangesGood, kind]; exact estimate
  · rw [OpenRequest.rangesGood, kind]
    exact Bool.and_eq_true_iff.mpr ⟨estimate, (userInRange_iff r.user).mpr range⟩

section Opens
variable {s : State} {b : List Byte} {r : OpenRequest} {p : Nat} {a : Account}

theorem serveJobOpen_print (spells : parseJobOpen b = some r) (kind : r.kind = .print) :
    serveJobOpen b s = s.openPrint r := by
  rw [serveJobOpen, spells, withParsed_some, if_pos kind]

theorem openPanel_range {se : Session} (active : s.session = some se) (bad : r.rangesGood = false) :
    s.openPanel r = refuse (s.used se) .range := by
  rw [State.openPanel, asSession_some active, if_neg (Bool.eq_false_iff.mp bad)]

theorem openPanel_for {se : Session} (active : s.session = some se) (good : r.rangesGood = true)
    (present : s.account se.position = some a) : s.openPanel r = (s.used se).openFor se.position a r := by
  rw [State.openPanel, asSession_some active, if_pos good]
  have same : (s.used se).account se.position = some a := present
  rw [same]

theorem openPrint_for (good : r.rangesGood = true) (found : s.findUser r.user = some (p, a)) :
    s.openPrint r = s.openFor p a r := by
  rw [State.openPrint, if_pos good, found]

/-- A COPY or PRINT open in range comes to the checks of R38, the session idle timer restarted by the former. -/
theorem serveJobOpen_sheets {kept : State} (spells : parseJobOpen b = some r)
    (opener : r.kind = .copy ∧ (∃ idle, s.session = some { position := p, idle := idle }) ∧ kept = s.touchSession ∨
      r.kind = .print ∧ 1 ≤ r.user ∧ r.user ≤ 99999999 ∧ s.findUser r.user = some (p, a) ∧ kept = s)
    (present : s.account p = some a) (low : 1 ≤ r.estimate) (high : r.estimate ≤ 9999) :
    serveJobOpen b s = kept.openFor p a r := by
  rcases opener with ⟨copy, ⟨idle, active⟩, rfl⟩ | ⟨print, userLow, userHigh, found, rfl⟩
  · have good := rangesGood_of_estimate low high (Or.inl copy)
    rw [serveJobOpen_panel spells (by rw [copy]; decide), openPanel_for active good present, s.touchSession_some active]
    rfl
  · have good := rangesGood_of_estimate low high (Or.inr (Or.inr ⟨print, userLow, userHigh⟩))
    rw [serveJobOpen_print spells print, openPrint_for good found]

theorem openFor_refused {st : Status} (refused : s.openRefusal p a r = some st) : s.openFor p a r = refuse s st := by
  rw [State.openFor, refused]

theorem openFor_accepted (accepted : s.openRefusal p a r = none) :
    s.openFor p a r = okWith (s.acceptOpen p r) (s.openReply (s.acceptOpen p r) p s.nextJobNumber r.kind) := by
  rw [State.openFor, accepted]

end Opens

/-! ## What an accepted open leaves -/

namespace State

variable {s : State} {p : Nat} {r : OpenRequest}

/-- The record of the job that an accepted open adds. -/
def openedJob (s : State) (p : Nat) (r : OpenRequest) : Job :=
  s.newJob p r s.nextJobNumber ((s.openDocument p r s.nextJobNumber).openedNumber r)

/-- The state of an accepted open before the stage is re-evaluated. -/
def jobAdded (s : State) (p : Nat) (r : OpenRequest) : State :=
  (s.openDocument p r s.nextJobNumber).addJob (s.openedJob p r)

theorem acceptOpen_eq (s : State) (p : Nat) (r : OpenRequest) : s.acceptOpen p r = (s.jobAdded p r).reevaluate p := rfl

theorem stopsOnly_acceptOpen (s : State) (p : Nat) (r : OpenRequest) : (s.jobAdded p r).StopsOnly (s.acceptOpen p r) :=
  stopsOnly_reevaluate ..

theorem job_jobAdded (s : State) (p : Nat) (r : OpenRequest) (m : Nat) :
    (s.jobAdded p r).job m = if m = s.nextJobNumber then some (s.openedJob p r) else s.job m := by
  have put := Table.find_put (s.openDocument p r s.nextJobNumber).jobs.jobs s.nextJobNumber (s.openedJob p r) m
  rw [openDocument_jobs] at put
  rw [job, jobAdded, addJob, openDocument_jobs]
  exact put

/-- A re-evaluation leaves a job as it is or stops it with cause CREDIT. -/
theorem job_reevaluate_cases (s : State) (p n : Nat) :
    (s.reevaluate p).job n = s.job n ∨ (s.reevaluate p).job n = (s.job n).map (·.stopped .credit) := by
  cases present : s.account p with
  | none => exact Or.inl (by rw [reevaluate_none present])
  | some a =>
    by_cases same : stageAfter s.settings a.stage (s.available p) = a.stage
    · exact Or.inl (by rw [reevaluate_same present same])
    · rw [reevaluate_moved present same]
      split
      · rw [job_stopJobs]
        split
        · exact Or.inr rfl
        · exact Or.inl rfl
      · exact Or.inl rfl

theorem job_acceptOpen (s : State) (p : Nat) (r : OpenRequest) :
    ∃ j, (s.acceptOpen p r).job s.nextJobNumber = some j ∧
      (j = s.openedJob p r ∨ j = { s.openedJob p r with state := .stopping, stopCause := some .credit }) := by
  have added : (s.jobAdded p r).job s.nextJobNumber = some (s.openedJob p r) := by rw [job_jobAdded, if_pos rfl]
  rcases job_reevaluate_cases (s.jobAdded p r) p s.nextJobNumber with same | stopped
  · exact ⟨_, same.trans added, Or.inl rfl⟩
  · refine ⟨_, ?_, Or.inr rfl⟩
    rw [acceptOpen_eq, stopped, added]
    exact congrArg some (Job.stopped_of_active rfl _)

/-- Jobs that were in the table stay, with their holds and their sheets. -/
theorem acceptOpen_keeps_jobs (few : s.jobs.jobs.length < 16) {m : Nat} {x : Job} (listed : s.job m = some x) :
    ∃ y, (s.acceptOpen p r).job m = some y ∧ y.holdRemaining = x.holdRemaining ∧ y.sheets = x.sheets := by
  have other : m ≠ s.nextJobNumber := by
    intro same
    rw [same, (nextJobNumber_free few).1] at listed
    cases listed
  have added : (s.jobAdded p r).job m = some x := by rw [job_jobAdded, if_neg other, listed]
  rcases (s.stopsOnly_acceptOpen p r).job_some added with same | ⟨c, _, stopped⟩
  · exact ⟨x, same, rfl, rfl⟩
  · exact ⟨_, stopped, rfl, rfl⟩

theorem balance_acceptOpen (s : State) (p : Nat) (r : OpenRequest) (q : Nat) :
    ((s.acceptOpen p r).account q).map (·.balance) = (s.account q).map (·.balance) := by
  rw [(s.stopsOnly_acceptOpen p r).balance q]
  have same : (s.jobAdded p r).account q = s.account q := by
    rw [account, jobAdded, addJob, setJobs_accounts, openDocument_accounts]; rfl
  rw [same]

theorem lastNumber_acceptOpen (s : State) (p : Nat) (r : OpenRequest) :
    (s.acceptOpen p r).jobs.lastNumber = s.nextJobNumber := (s.stopsOnly_acceptOpen p r).lastNumber

theorem openDocument_sheets (kind : r.kind = .copy ∨ r.kind = .print) (n : Nat) : s.openDocument p r n = s := by
  rcases kind with kind | kind <;> rw [openDocument, kind]

theorem openColour_sheets (kind : r.kind = .copy ∨ r.kind = .print) : s.openColour p r = r.colourClass := by
  rcases kind with kind | kind <;> rw [openColour, kind]

theorem holdAsked_sheets (kind : r.kind = .copy ∨ r.kind = .print) :
    s.holdAsked p r = r.estimate * ((s.rates.entry (entryNumber r.sizeClass.val r.colourClass .front)).base +
      if r.duplex then (s.rates.entry (entryNumber r.sizeClass.val r.colourClass .back)).base else 0) := by
  rcases kind with kind | kind <;> rw [holdAsked, kind]

theorem planesReady_sheets {k : JobKind} (kind : k = .copy ∨ k = .print) (c : ColourClass) :
    s.planesReady k c = if c = .colour then s.cart.colour else s.cart.mono := by
  rcases kind with rfl | rfl <;> cases c <;> rfl

end State

/-! ## COPY and PRINT opens (O19) -/

section Sheets
variable {s : State} {p : Nat} {a : Account} {r : OpenRequest}

/-- The rows of the statement about COPY and PRINT opens are the first seven checks of R38. -/
theorem sameRows_sheets (kind : r.kind = .copy ∨ r.kind = .print) : SameRows
    [(16 ≤ s.jobs.jobs.length, .tableFull),
     (a.state = .suspended, .suspended),
     (a.state = .locked, .locked),
     (a.stage = .stopped, .noCredit),
     (r.colourClass = .colour ∧ a.colourRight = .mono, .notPermitted),
     (r.colourClass = .colour ∧ a.stage = .limited, .colourLimited),
     (r.colourClass = .colour ∧ s.cart.colour = false ∨ r.colourClass = .mono ∧ s.cart.mono = false, .tonerUnavailable)]
    ((s.openChecks p a r).take 7) := by
  have planes : (r.colourClass = .colour ∧ s.cart.colour = false ∨ r.colourClass = .mono ∧ s.cart.mono = false) ↔
      (!s.planesReady r.kind (s.openColour p r)) = true := by
    rw [State.openColour_sheets kind, State.planesReady_sheets kind]
    cases r.colourClass <;> simp
  refine .cons ⟨decide_eq_true_iff.symm, rfl⟩ (.cons ⟨beq_iff_eq.symm, rfl⟩ (.cons ⟨beq_iff_eq.symm, rfl⟩
    (.cons ⟨beq_iff_eq.symm, rfl⟩ (.cons ⟨?_, rfl⟩ (.cons ⟨?_, rfl⟩ (.cons ⟨planes, rfl⟩ .nil))))))
  · rw [State.openColour_sheets kind, Bool.and_eq_true_iff, beq_iff_eq, beq_iff_eq]
  · rw [State.openColour_sheets kind, Bool.and_eq_true_iff, beq_iff_eq, beq_iff_eq]

theorem openChecks_split (s : State) (p : Nat) (a : Account) (r : OpenRequest) :
    s.openChecks p a r = (s.openChecks p a r).take 7 ++ (s.openChecks p a r).drop 7 := (List.take_append_drop ..).symm

theorem openRefusal_sheets (kind : r.kind = .copy ∨ r.kind = .print) :
    s.openRefusal p a r = firstRefusal ((s.openChecks p a r).take 7) := by
  have rest : firstRefusal ((s.openChecks p a r).drop 7) = none := by
    rcases kind with kind | kind <;> simp [State.openChecks, firstRefusal, kind, JobKind.usesStore]
  have document : s.documentRefusal p r = none := by
    rcases kind with kind | kind <;> rw [State.documentRefusal, kind]
  have checks : firstRefusal (s.openChecks p a r) = firstRefusal ((s.openChecks p a r).take 7) := by
    rw [openChecks_split, firstRefusal_append, rest, Option.or_none, List.take_append_drop]
  rw [State.openRefusal, checks, document]
  cases firstRefusal ((s.openChecks p a r).take 7) <;> rfl

theorem openRefusal_sheets_none (kind : r.kind = .copy ∨ r.kind = .print) (few : s.jobs.jobs.length < 16)
    (working : a.state = .active) (credit : a.stage ≠ .stopped)
    (colour : r.colourClass = .colour → a.colourRight = .full ∧ a.stage = .full ∧ s.cart.colour = true)
    (mono : r.colourClass = .mono → s.cart.mono = true) : s.openRefusal p a r = none := by
  have planes : s.planesReady r.kind (s.openColour p r) = true := by
    rw [State.openColour_sheets kind, State.planesReady_sheets kind]
    split
    · next class_ => exact (colour class_).2.2
    · next class_ => exact mono (by cases h : r.colourClass <;> simp_all)
  rw [openRefusal_sheets kind]
  refine firstRefusal_eq_none.mpr fun x mem => ?_
  simp only [State.openChecks, List.take, List.mem_cons, List.not_mem_nil, or_false] at mem
  rcases mem with rfl | rfl | rfl | rfl | rfl | rfl | rfl
  · exact decide_eq_false (Nat.not_le.mpr few)
  · rw [working]; rfl
  · rw [working]; rfl
  · exact beq_false_of_ne credit
  · dsimp only
    rw [State.openColour_sheets kind]
    cases class_ : r.colourClass with
    | mono => rfl
    | colour => rw [(colour class_).1]; rfl
  · dsimp only
    rw [State.openColour_sheets kind]
    cases class_ : r.colourClass with
    | mono => rfl
    | colour => rw [(colour class_).2.1]; rfl
  · dsimp only; rw [planes]; rfl

end Sheets

/-- The hold that a COPY or PRINT open asks for, clamped (R39). -/
theorem holdClamped_sheets {s : State} {p : Nat} {r : OpenRequest} (kind : r.kind = .copy ∨ r.kind = .print) :
    s.holdClamped p r = min 16000000 (r.estimate *
      ((s.rates.entry (entryNumber r.sizeClass.val r.colourClass .front)).base +
        if r.duplex then (s.rates.entry (entryNumber r.sizeClass.val r.colourClass .back)).base else 0)) := by
  rw [State.holdClamped, State.holdAsked_sheets kind]
  rfl

/-- The record of the job that a COPY or PRINT open adds, stopped or not. -/
theorem openedJob_sheets {s : State} {p : Nat} {r : OpenRequest} {j : Job} (kind : r.kind = .copy ∨ r.kind = .print)
    (record : j = s.openedJob p r ∨ j = { s.openedJob p r with state := .stopping, stopCause := some .credit }) :
    let asked := min 16000000 (r.estimate *
      ((s.rates.entry (entryNumber r.sizeClass.val r.colourClass .front)).base +
        if r.duplex then (s.rates.entry (entryNumber r.sizeClass.val r.colourClass .back)).base else 0))
    j.number = s.nextJobNumber ∧ j.kind = r.kind ∧ j.owner = p ∧ j.sizeClass = r.sizeClass.val ∧
      j.colourClass = r.colourClass ∧ j.duplex = r.duplex ∧ j.initialHold = min asked (s.available p) ∧
      j.holdRemaining = j.initialHold ∧ (j.short = true ↔ s.available p < asked) ∧ j.engineEnded = false ∧ j.sheets = 0 ∧
      j.pointsCharged = 0 ∧ j.pointsDrawn = 0 ∧ j.pointsArrears = 0 ∧ j.stream = none ∧ j.document = none ∧
      j.drain = none ∧ (j.state = .opened ∧ j.stopCause = none ∨ j.state = .stopping ∧ j.stopCause = some .credit) := by
  have document : (s.openedJob p r).document = none := by
    rcases kind with kind | kind <;> simp [State.openedJob, State.newJob, State.openedNumber, kind]
  have size : s.openSize p r = r.sizeClass.val := by
    rcases kind with kind | kind <;> simp [State.openSize, kind]
  have class_ : s.openColour p r = r.colourClass := State.openColour_sheets kind
  intro asked
  have hold : s.holdClamped p r = asked := holdClamped_sheets kind
  have amount : (s.openedJob p r).initialHold = min asked (s.available p) := congrArg (fun h => min h (s.available p)) hold
  have short : (s.openedJob p r).short = true ↔ s.available p < asked := by
    show decide (s.available p < s.holdClamped p r) = true ↔ _
    rw [hold]; exact decide_eq_true_iff
  rcases record with rfl | rfl
  · exact ⟨rfl, rfl, rfl, size, class_, rfl, amount, rfl, short, rfl, rfl, rfl, rfl, rfl, rfl, document, rfl,
      Or.inl ⟨rfl, rfl⟩⟩
  · exact ⟨rfl, rfl, rfl, size, class_, rfl, amount, rfl, short, rfl, rfl, rfl, rfl, rfl, rfl, document, rfl,
      Or.inr ⟨rfl, rfl⟩⟩

/-- An open served from the state itself or from the state with its idle timer restarted. -/
theorem serveJobOpen_session {s : State} {b : List Byte} {r : OpenRequest} {p : Nat} {a : Account}
    (spells : parseJobOpen b = some r)
    (opener : r.kind = .copy ∧ (∃ idle, s.session = some { position := p, idle := idle }) ∨
      r.kind = .print ∧ 1 ≤ r.user ∧ r.user ≤ 99999999 ∧ s.findUser r.user = some (p, a))
    (present : s.account p = some a) (low : 1 ≤ r.estimate) (high : r.estimate ≤ 9999) :
    (r.kind = .copy ∨ r.kind = .print) ∧ ∃ x, serveJobOpen b s = (s.setSession x).openFor p a r := by
  rcases opener with ⟨copy, active⟩ | ⟨print, userLow, userHigh, found⟩
  · exact ⟨Or.inl copy, _, serveJobOpen_sheets spells (Or.inl ⟨copy, active, rfl⟩) present low high⟩
  · exact ⟨Or.inr print, s.session,
      serveJobOpen_sheets spells (Or.inr ⟨print, userLow, userHigh, found, rfl⟩) present low high⟩

/-- Settles O19. -/
theorem copyAndPrintOpensSetAHold : Obligations.CopyAndPrintOpensSetAHold := by
  refine ⟨fun s b r p a serving spells opener present low high few working credit colour mono => ?_,
    fun s b r serving spells => ⟨fun se copy active bad => ?_, fun print => ⟨fun bad => ?_, fun low high userLow userHigh missing => ?_⟩,
      fun p a kept opener present low high => ?_⟩⟩
  · obtain ⟨kind, x, served⟩ := serveJobOpen_session spells opener present low high
    have accepted : (s.setSession x).openRefusal p a r = none :=
      openRefusal_sheets_none kind few working credit colour mono
    have only := (s.setSession x).stopsOnly_acceptOpen p r
    have rest : (s.setSession x).jobAdded p r = (s.setSession x).addJob ((s.setSession x).openedJob p r) := by
      rw [State.jobAdded, State.openDocument_sheets kind]
    obtain ⟨free, first, last⟩ := State.nextJobNumber_free (s := s.setSession x) few
    rw [rest] at only
    intro asked
    obtain ⟨j, listed, record⟩ := (s.setSession x).job_acceptOpen p r
    obtain ⟨number, kind_, owner, sizeClass, colourClass, duplex, initial, remaining, short, ended, sheets, charged, drawn,
      arrears, stream, document_, drain, state⟩ := openedJob_sheets kind record
    exact ⟨(s.setSession x).acceptOpen p r, (s.setSession x).nextJobNumber, j, _,
      requestFrame_ok serving (served.trans (openFor_accepted accepted)), first, last, free, listed,
      State.lastNumber_acceptOpen .., number, kind_, owner, sizeClass, colourClass, duplex, initial, remaining, short, ended,
      sheets, charged, drawn, arrears, stream, document_, drain, state,
      fun m x_ there => State.acceptOpen_keeps_jobs (s := s.setSession x) few there,
      (s.setSession x).balance_acceptOpen p r, only.meters, only.store, only.rates, only.settings, only.queue, only.cart,
      only.mem⟩
  · have range : r.rangesGood = false := by
      rw [OpenRequest.rangesGood, copy]
      exact decide_eq_false fun good => by have := good.1; have : r.estimate ≤ 9999 := good.2; omega
    exact requestFrame_no serving ((serveJobOpen_panel spells (by rw [copy]; decide)).trans (openPanel_range active range))
  · have range : r.rangesGood = false := by
      rw [OpenRequest.rangesGood, print]
      refine Bool.eq_false_iff.mpr fun good => ?_
      obtain ⟨estimate, user⟩ := Bool.and_eq_true_iff.mp good
      have user := (userInRange_iff r.user).mp user
      have : 1 ≤ r.estimate ∧ r.estimate ≤ 9999 := of_decide_eq_true estimate
      omega
    refine requestFrame_no serving ((serveJobOpen_print spells print).trans ?_)
    rw [State.openPrint, if_neg (Bool.eq_false_iff.mp range)]
  · have good := rangesGood_of_estimate low high (Or.inr (Or.inr ⟨print, userLow, userHigh⟩))
    refine requestFrame_no serving ((serveJobOpen_print spells print).trans ?_)
    rw [State.openPrint, if_pos good, missing]
  · have kind : r.kind = .copy ∨ r.kind = .print := opener.imp (·.1) (·.1)
    have served := serveJobOpen_sheets spells opener present low high
    have same : kept = s.setSession kept.session := by
      rcases opener with ⟨_, _, rfl⟩ | ⟨_, _, _, _, rfl⟩ <;> rfl
    refine firstApplies_of_rows (sameRows_sheets (s := s) (p := p) kind) fun st refuses => ?_
    refine requestFrame_no serving (served.trans (openFor_refused ?_))
    rw [same, openRefusal_sheets kind]
    exact refuses

end Sys2Proof.Machine
end

section
/-! PROOFS. JOB OPEN on the document store (O20): SCAN and BOX_PRINT. -/

namespace Sys2Proof.Machine

section Owners
variable {s : State} {b : List Byte} {r : OpenRequest} {p idle : Nat} {a : Account}

/-- A SCAN or BOX_PRINT open in range comes to the checks of R38 with the session idle timer restarted. -/
theorem serveJobOpen_store (spells : parseJobOpen b = some r) (kind : r.kind = .scan ∨ r.kind = .boxPrint)
    (active : s.session = some { position := p, idle := idle }) (good : r.rangesGood = true)
    (present : s.account p = some a) : serveJobOpen b s = s.touchSession.openFor p a r := by
  have panel : r.kind ≠ .print := by rcases kind with kind | kind <;> rw [kind] <;> decide
  rw [serveJobOpen_panel spells panel, openPanel_for active good present, s.touchSession_some active]
  rfl

theorem serveJobOpen_store_range (spells : parseJobOpen b = some r) (kind : r.kind = .scan ∨ r.kind = .boxPrint)
    (active : s.session = some { position := p, idle := idle }) (bad : r.rangesGood = false) :
    serveJobOpen b s = refuse s.touchSession .range := by
  have panel : r.kind ≠ .print := by rcases kind with kind | kind <;> rw [kind] <;> decide
  rw [serveJobOpen_panel spells panel, openPanel_range active bad, s.touchSession_some active]
  rfl

theorem rangesGood_scan (kind : r.kind = .scan) : r.rangesGood = decide (1 ≤ r.estimate ∧ r.estimate ≤ 9999) := by
  rw [OpenRequest.rangesGood, kind]; rfl

theorem rangesGood_boxPrint (kind : r.kind = .boxPrint) : r.rangesGood = decide (r.document ≠ 0) := by
  rw [OpenRequest.rangesGood, kind]

/-! ## The checks of the document store -/

/-- The documents of an account. -/
def State.mine (s : State) (p : Nat) : List Document := s.store.docs.filter fun d => d.owner == p

/-- Those of them that RECYCLE may erase. -/
def State.spare (s : State) (p : Nat) : List Document := (s.mine p).filter fun d => d.state == .stored && d.job.isNone

/-- How many must leave. -/
def State.leave (s : State) (p : Nat) : Nat :=
  max ((s.mine p).length + 1 - s.settings.ownerCap) (s.store.docs.length - 63)

theorem recycleCandidates_eq (s : State) (p : Nat) : s.recycleCandidates p = s.spare p := by
  rw [State.spare, State.mine, List.filter_filter, State.recycleCandidates]
  congr 1
  funext d
  cases d.owner == p <;> cases d.state == .stored <;> cases d.job.isNone <;> rfl

theorem toRecycle_eq (s : State) (p : Nat) : s.toRecycle p = s.leave p := by
  rw [State.toRecycle, State.ownedCount, List.countP_eq_length_filter]; rfl

theorem scanStoreFull_iff (s : State) (p : Nat) : s.scanStoreFull p = true ↔
    s.leave p ≠ 0 ∧ (s.settings.boxPolicy = .keep ∨ (s.spare p).length < s.leave p) := by
  rw [State.scanStoreFull, toRecycle_eq, recycleCandidates_eq]
  simp

theorem openColour_scan (kind : r.kind = .scan) : s.openColour p r = .mono := by rw [State.openColour, kind]

/-- The colour mark of the account's document that a BOX_PRINT open names. -/
def State.ownColour (s : State) (p n : Nat) : Prop := ∃ d, s.document n = some d ∧ d.owner = p ∧ d.colour = true

theorem ownDocument_of {d : Document} (named : s.document r.document = some d) (owner : d.owner = p) :
    s.ownDocument p r.document = some d := by
  rw [State.ownDocument, named]; simp [owner]

theorem openColour_boxPrint_iff (kind : r.kind = .boxPrint) :
    s.openColour p r = .colour ↔ s.ownColour p r.document := by
  rw [State.openColour, kind]
  dsimp only
  rw [State.ownDocument, State.ownColour]
  cases s.document r.document with
  | none => simp
  | some d => by_cases owner : d.owner = p <;> simp [owner, Option.filter]

theorem openColour_store_iff (kind : r.kind = .scan ∨ r.kind = .boxPrint) :
    s.openColour p r = .colour ↔ r.kind = .boxPrint ∧ s.ownColour p r.document := by
  rcases kind with kind | kind
  · rw [openColour_scan kind]; simp [kind]
  · rw [openColour_boxPrint_iff kind]; simp [kind]

theorem planesReady_store (kind : r.kind = .scan ∨ r.kind = .boxPrint) :
    (!s.planesReady r.kind (s.openColour p r)) = true ↔
      s.openColour p r = .colour ∧ s.cart.colour = false ∨
        r.kind = .boxPrint ∧ s.openColour p r ≠ .colour ∧ s.cart.mono = false := by
  rcases kind with kind | kind
  · rw [openColour_scan kind, kind]; simp [State.planesReady]
  · rw [kind]
    cases s.openColour p r <;> simp [State.planesReady]

/-- The document checks of R38 as rows. -/
def State.documentRows (s : State) (p : Nat) (r : OpenRequest) : List (Bool × Status) :=
  [(r.kind == .scan && s.scanStoreFull p, .storeFull),
   (r.kind == .boxPrint && ((s.ownDocument p r.document).filter fun d => d.state == .stored).isNone, .noDocument),
   (r.kind == .boxPrint && ((s.document r.document).map (·.job.isSome)).getD false, .inUse)]

theorem documentRefusal_eq (kind : r.kind = .scan ∨ r.kind = .boxPrint) :
    s.documentRefusal p r = firstRefusal (s.documentRows p r) := by
  rcases kind with kind | kind
  · rw [State.documentRefusal, kind]
    simp [firstRefusal, State.documentRows, kind]
  · rw [State.documentRefusal, kind]
    simp only [firstRefusal, State.documentRows, kind, State.ownDocument]
    cases s.document r.document with
    | none => rfl
    | some d =>
      by_cases owner : d.owner = p
      · by_cases stored : d.state = .stored
        · simp [owner, stored, Option.filter]
        · simp [owner, stored, Option.filter]
      · simp [owner, Option.filter]

/-- All checks of an open on the store, from the ranges on. -/
def State.storeRows (s : State) (p : Nat) (a : Account) (r : OpenRequest) : List (Bool × Status) :=
  (!r.rangesGood, .range) :: (s.openChecks p a r ++ s.documentRows p r)

theorem openRefusal_store (kind : r.kind = .scan ∨ r.kind = .boxPrint) :
    s.openRefusal p a r = firstRefusal (s.openChecks p a r ++ s.documentRows p r) := by
  rw [State.openRefusal, firstRefusal_append, documentRefusal_eq kind]
  cases firstRefusal (s.openChecks p a r) <;> rfl

theorem noDocument_iff : ((s.ownDocument p r.document).filter fun d => d.state == .stored).isNone = true ↔
    ∀ d, s.document r.document = some d → d.owner = p → d.state ≠ .stored := by
  rw [State.ownDocument]
  cases s.document r.document with
  | none => simp
  | some d =>
    by_cases owner : d.owner = p
    · by_cases stored : d.state = .stored <;> simp [owner, stored, Option.filter]
    · simp [owner, Option.filter]

theorem inUse_iff : ((s.document r.document).map (·.job.isSome)).getD false = true ↔
    ∃ d, s.document r.document = some d ∧ d.job.isSome = true := by
  cases s.document r.document <;> simp

theorem range_iff (kind : r.kind = .scan ∨ r.kind = .boxPrint) : (!r.rangesGood) = true ↔
    r.kind = .scan ∧ (r.estimate < 1 ∨ 9999 < r.estimate) ∨ r.kind = .boxPrint ∧ r.document = 0 := by
  rcases kind with kind | kind
  · rw [rangesGood_scan kind]; simp [kind]
  · rw [rangesGood_boxPrint kind]; simp [kind]

/-- The rows of the statement about SCAN and BOX_PRINT opens are the checks of the model. -/
theorem sameRows_store (kind : r.kind = .scan ∨ r.kind = .boxPrint) :
    let colour := r.kind = .boxPrint ∧ ∃ d, s.document r.document = some d ∧ d.owner = p ∧ d.colour = true
    SameRows
      [(r.kind = .scan ∧ (r.estimate < 1 ∨ 9999 < r.estimate) ∨ r.kind = .boxPrint ∧ r.document = 0, .range),
       (16 ≤ s.jobs.jobs.length, .tableFull),
       (a.state = .suspended, .suspended),
       (a.state = .locked, .locked),
       (a.stage = .stopped, .noCredit),
       (colour ∧ a.colourRight = .mono, .notPermitted),
       (colour ∧ a.stage = .limited, .colourLimited),
       (colour ∧ s.cart.colour = false ∨ r.kind = .boxPrint ∧ ¬colour ∧ s.cart.mono = false, .tonerUnavailable),
       (a.boxRight = false, .notPermitted),
       (s.tamper.latch = true, .tampered),
       (r.kind = .scan ∧ s.leave p ≠ 0 ∧ (s.settings.boxPolicy = .keep ∨ (s.spare p).length < s.leave p), .storeFull),
       (r.kind = .boxPrint ∧ (∀ d, s.document r.document = some d → d.owner = p → d.state ≠ .stored), .noDocument),
       (r.kind = .boxPrint ∧ (∃ d, s.document r.document = some d ∧ d.job.isSome = true), .inUse)]
      (s.storeRows p a r) := by
  intro colour
  have hue : s.openColour p r = .colour ↔ colour := openColour_store_iff kind
  have uses : r.kind.usesStore = true := by rcases kind with kind | kind <;> rw [kind] <;> rfl
  refine .cons ⟨(range_iff kind).symm, rfl⟩ (.cons ⟨decide_eq_true_iff.symm, rfl⟩ (.cons ⟨beq_iff_eq.symm, rfl⟩
    (.cons ⟨beq_iff_eq.symm, rfl⟩ (.cons ⟨beq_iff_eq.symm, rfl⟩ (.cons ⟨?_, rfl⟩ (.cons ⟨?_, rfl⟩ (.cons ⟨?_, rfl⟩
    (.cons ⟨?_, rfl⟩ (.cons ⟨?_, rfl⟩ (.cons ⟨?_, rfl⟩ (.cons ⟨?_, rfl⟩ (.cons ⟨?_, rfl⟩ .nil))))))))))))
  · rw [Bool.and_eq_true_iff, beq_iff_eq, beq_iff_eq, hue]
  · rw [Bool.and_eq_true_iff, beq_iff_eq, beq_iff_eq, hue]
  · rw [planesReady_store kind, Ne, hue]
  · rw [uses]; simp
  · rw [uses]; simp
  · rw [Bool.and_eq_true_iff, beq_iff_eq, scanStoreFull_iff]
  · rw [Bool.and_eq_true_iff, beq_iff_eq, noDocument_iff]
  · rw [Bool.and_eq_true_iff, beq_iff_eq, inUse_iff]

/-- What the checks refuse is refused with the session idle timer restarted. -/
theorem serveJobOpen_store_refused {st : Status} (spells : parseJobOpen b = some r)
    (kind : r.kind = .scan ∨ r.kind = .boxPrint) (active : s.session = some { position := p, idle := idle })
    (present : s.account p = some a) (refused : firstRefusal (s.storeRows p a r) = some st) :
    serveJobOpen b s = refuse s.touchSession st := by
  rw [State.storeRows, firstRefusal] at refused
  split at refused
  · next bad =>
    rw [serveJobOpen_store_range spells kind active (by simpa using bad), Option.some.inj refused]
  · next good =>
    rw [serveJobOpen_store spells kind active (by simpa using good) present]
    exact openFor_refused ((openRefusal_store (s := s.touchSession) kind).trans refused)

end Owners

/-! ## What an accepted open does to the store -/

namespace State

variable {s : State} {p : Nat} {r : OpenRequest}

theorem docs_eraseDocuments (l : List Nat) (s : State) :
    (l.foldl eraseDocument s).store = { s.store with docs := s.store.docs.filter fun x => !l.contains x.number } := by
  induction l generalizing s with
  | nil =>
    have all : (s.store.docs.filter fun x => !([] : List Nat).contains x.number) = s.store.docs :=
      List.filter_eq_self.mpr fun _ _ => rfl
    rw [all]; rfl
  | cons n rest ih =>
    have same : (s.store.docs.filter fun d : Document => d.number != n).filter (fun x : Document => !rest.contains x.number) =
        s.store.docs.filter fun x : Document => !(n :: rest).contains x.number := by
      rw [List.filter_filter]
      refine List.filter_congr fun x _ => ?_
      rw [List.contains_cons, Bool.not_or, Bool.and_comm]
      rfl
    rw [List.foldl_cons, ih, ← same]
    rfl

/-- The state in which RECYCLE has let the documents go. -/
def recycling (s : State) (p : Nat) : State := (((s.spare p).take (s.leave p)).map (·.number)).foldl eraseDocument s

/-- The document that an accepted SCAN open creates. -/
def scanDocument (s : State) (p : Nat) (r : OpenRequest) : Document :=
  { number := (s.recycling p).nextDocumentNumber, owner := p, state := .writing, key := Config.randomKey s.draws, pages := 0,
    bands := 0, colour := false, sizeClass := r.sizeClass.val, job := some s.nextJobNumber }

theorem recycling_eq (s : State) (p : Nat) : s.recycling p = s.setStore (s.recycling p).store := eraseDocuments_eq ..

theorem openDocument_scan (kind : r.kind = .scan) :
    s.openDocument p r s.nextJobNumber = (s.recycling p).createDocument p r.sizeClass.val s.nextJobNumber := by
  rw [openDocument, kind, recycled, if_pos rfl, toRecycle_eq, recycleCandidates_eq]
  rfl

theorem createDocument_recycling (kind : r.kind = .scan) : s.openDocument p r s.nextJobNumber =
    (s.setDraws (s.draws + 1)).setStore
      { docs := (s.recycling p).store.docs ++ [s.scanDocument p r], lastNumber := (s.scanDocument p r).number } := by
  have draws : (s.recycling p).draws = s.draws := by rw [recycling_eq]; rfl
  have frame : ∀ x y, ((s.recycling p).setDraws x).setStore y = (s.setDraws x).setStore y := by
    intro x y; rw [recycling_eq]; rfl
  rw [openDocument_scan kind, createDocument, draws, drawn, draws]
  exact frame _ _

theorem docs_recycling (s : State) (p : Nat) : (s.recycling p).store.docs =
    s.store.docs.filter fun x => !(((s.spare p).take (s.leave p)).map (·.number)).contains x.number := by
  rw [recycling, docs_eraseDocuments]

theorem document_isSome_of_mem {d : Document} (mem : d ∈ s.store.docs) : (s.document d.number).isSome = true :=
  List.find?_isSome.mpr ⟨d, mem, beq_self_eq_true _⟩

/-- The number of a new document is held by no document. -/
theorem nextDocumentNumber_free (few : s.store.docs.length + s.jobs.jobs.length < 65535) :
    ∀ d ∈ s.store.docs, d.number ≠ s.nextDocumentNumber := by
  have free := (nextNumber_free (last := s.store.lastNumber) (fuel := s.store.docs.length + s.jobs.jobs.length)
    (taken := fun n => (s.document n).isSome || s.jobList.any fun j => j.document == some n)
    (keys := s.store.docs.map (·.number) ++ s.jobList.map fun j => j.document.getD 0)
    (fun n taken => by
      rcases Bool.or_eq_true_iff.mp taken with held | named
      · obtain ⟨d, mem, number⟩ := List.find?_isSome.mp held
        exact List.mem_append_left _ (List.mem_map.mpr ⟨d, mem, by simpa using number⟩)
      · obtain ⟨j, mem, document⟩ := List.any_eq_true.mp named
        exact List.mem_append_right _ (List.mem_map.mpr ⟨j, mem, by rw [eq_of_beq document]; rfl⟩))
    (by simp [jobList]) few).1
  intro d mem same
  have held := document_isSome_of_mem mem
  rw [same] at held
  rw [Bool.or_eq_false_iff] at free
  exact Bool.noConfusion (free.1.symm.trans held)

theorem scanDocument_fresh (few : s.store.docs.length ≤ 64) (jobs : s.jobs.jobs.length < 16) {x : Document}
    (mem : x ∈ s.store.docs) :
    x.number ∈ ((s.spare p).take (s.leave p)).map (·.number) ∨ x.number ≠ (s.scanDocument p r).number := by
  by_cases gone : x.number ∈ ((s.spare p).take (s.leave p)).map (·.number)
  · exact Or.inl gone
  · right
    have stays : x ∈ (s.recycling p).store.docs := by
      rw [docs_recycling]
      exact List.mem_filter.mpr ⟨mem, by simpa using gone⟩
    have fewer : (s.recycling p).store.docs.length ≤ s.store.docs.length := by
      rw [docs_recycling]; exact List.length_filter_le ..
    have table : (s.recycling p).jobs = s.jobs := by rw [recycling_eq]; rfl
    exact nextDocumentNumber_free (s := s.recycling p) (by rw [table]; omega) x stays

theorem store_acceptOpen (s : State) (p : Nat) (r : OpenRequest) :
    (s.acceptOpen p r).store = (s.openDocument p r s.nextJobNumber).store := (s.stopsOnly_acceptOpen p r).store

/-- What an accepted open leaves besides the document store, the draws and the job. -/
theorem meters_acceptOpen (s : State) (p : Nat) (r : OpenRequest) :
    (s.acceptOpen p r).meters = s.meters ∧ (s.acceptOpen p r).queue = s.queue ∧ (s.acceptOpen p r).cart = s.cart ∧
      (s.acceptOpen p r).pool.mem = s.pool.mem := by
  have only := s.stopsOnly_acceptOpen p r
  have rest := s.openDocument_eq p r s.nextJobNumber
  refine ⟨only.meters.trans ?_, only.queue.trans ?_, only.cart.trans ?_, only.mem.trans ?_⟩ <;>
    rw [jobAdded, rest] <;> rfl

theorem inOrder_jobAdded (order : s.jobs.InOrder) : (s.jobAdded p r).jobs.InOrder := by
  rw [jobAdded, addJob, openDocument_jobs]
  obtain ⟨rising, numbers⟩ := order
  refine ⟨Table.rising_put _ _ rising, fun c mem => ?_⟩
  rcases Table.mem_put mem with rfl | there
  · rfl
  · exact numbers c there

/-- A re-evaluation leaves SCAN jobs alone. -/
theorem job_reevaluate_scan (order : s.jobs.InOrder) {n : Nat} {j : Job} (listed : s.job n = some j) (scan : j.kind = .scan) :
    (s.reevaluate p).job n = some j := by
  cases present : s.account p with
  | none => rw [reevaluate_none present, listed]
  | some a =>
    by_cases same : stageAfter s.settings a.stage (s.available p) = a.stage
    · rw [reevaluate_same present same, listed]
    · by_cases stopped : stageAfter s.settings a.stage (s.available p) = .stopped
      · have entered : a.stage ≠ .stopped := fun before => same (stopped.trans before.symm)
        rw [job_reevaluate order present stopped entered listed, if_neg]
        rintro ⟨_, stops⟩
        exact ((j.stopsOnCredit_iff).mp stops).1 scan
      · rw [job, jobs_reevaluate present stopped]; exact listed

theorem job_acceptOpen_scan (order : s.jobs.InOrder) (kind : r.kind = .scan) :
    (s.acceptOpen p r).job s.nextJobNumber = some (s.openedJob p r) := by
  have added : (s.jobAdded p r).job s.nextJobNumber = some (s.openedJob p r) := by rw [job_jobAdded, if_pos rfl]
  exact job_reevaluate_scan (inOrder_jobAdded order) added kind

end State

section Accepts
variable {s : State} {r : OpenRequest} {p : Nat} {a : Account}

theorem openChecks_scan_pass (kind : r.kind = .scan) (few : s.jobs.jobs.length < 16) (working : a.state = .active)
    (credit : a.stage ≠ .stopped) (box : a.boxRight = true) (calm : s.tamper.latch = false) :
    ∀ x ∈ s.openChecks p a r, x.1 = false := by
  have hue : (s.openColour p r == .colour) = false := by rw [openColour_scan kind]; rfl
  intro x mem
  simp only [State.openChecks, hue, kind, working, box, calm, List.mem_cons, List.not_mem_nil, or_false] at mem
  rcases mem with rfl | rfl | rfl | rfl | rfl | rfl | rfl | rfl | rfl
  · exact decide_eq_false (Nat.not_le.mpr few)
  · rfl
  · rfl
  · exact beq_false_of_ne credit
  all_goals rfl

theorem openChecks_boxPrint_pass {d : Document} (kind : r.kind = .boxPrint) (named : s.document r.document = some d)
    (owner : d.owner = p) (few : s.jobs.jobs.length < 16) (working : a.state = .active)
    (credit : a.stage ≠ .stopped) (box : a.boxRight = true) (calm : s.tamper.latch = false)
    (colour : d.colour = true → a.colourRight = .full ∧ a.stage = .full ∧ s.cart.colour = true)
    (mono : d.colour = false → s.cart.mono = true) :
    ∀ x ∈ s.openChecks p a r, x.1 = false := by
  have hue : s.openColour p r = if d.colour then .colour else .mono := by
    rw [State.openColour, kind]
    dsimp only
    rw [ownDocument_of named owner]; rfl
  intro x mem
  simp only [State.openChecks, hue, kind, working, box, calm, List.mem_cons, List.not_mem_nil, or_false] at mem
  rcases mem with rfl | rfl | rfl | rfl | rfl | rfl | rfl | rfl | rfl
  · exact decide_eq_false (Nat.not_le.mpr few)
  · rfl
  · rfl
  · exact beq_false_of_ne credit
  · cases marked : d.colour with
    | false => rfl
    | true => rw [(colour marked).1]; rfl
  · cases marked : d.colour with
    | false => rfl
    | true => rw [(colour marked).2.1]; rfl
  · cases marked : d.colour with
    | false => simp [State.planesReady, mono marked]
    | true => simp [State.planesReady, (colour marked).2.2]
  all_goals rfl

theorem openRefusal_of_pass (pass : ∀ x ∈ s.openChecks p a r, x.1 = false) :
    s.openRefusal p a r = s.documentRefusal p r := by
  rw [State.openRefusal, firstRefusal_eq_none.mpr pass]

theorem documentRefusal_boxPrint {d : Document} (kind : r.kind = .boxPrint) (named : s.document r.document = some d)
    (owner : d.owner = p) (stored : d.state = .stored) :
    s.documentRefusal p r = if d.job.isSome then some .inUse else none := by
  rw [State.documentRefusal, kind]
  dsimp only
  rw [ownDocument_of named owner, Option.filter, if_pos (by rw [stored]; rfl)]

theorem holdAsked_boxPrint {d : Document} (kind : r.kind = .boxPrint) (named : s.document r.document = some d)
    (owner : d.owner = p) : s.holdAsked p r = d.pages * (s.rates.entry (entryNumber d.sizeClass
        (if d.colour then .colour else .mono) .front)).base := by
  rw [State.holdAsked, kind]
  dsimp only
  rw [ownDocument_of named owner]

end Accepts

/-- The acceptance of a SCAN open: the first part of O20. -/
theorem acceptOpen_scan {s : State} {r : OpenRequest} {p : Nat} (order : s.jobs.InOrder) (kind : r.kind = .scan)
    (few : s.jobs.jobs.length < 16) (docs : s.store.docs.length ≤ 64) :
    ∃ (n : Nat) (j : Job) (d : Document), s.job n = none ∧ (s.acceptOpen p r).job n = some j ∧ j.kind = .scan ∧
      j.owner = p ∧ j.document = some d.number ∧ j.state = .opened ∧
      j.initialHold = min (min 16000000 (r.estimate * s.rates.scanRate r.sizeClass.val)) (s.available p) ∧
      j.holdRemaining = j.initialHold ∧
      (s.acceptOpen p r).store.docs = (s.store.docs.filter fun x =>
        !(((s.spare p).take (s.leave p)).map (·.number)).contains x.number) ++ [d] ∧
      (s.acceptOpen p r).store.lastNumber = d.number ∧
      (∀ x ∈ s.store.docs, x.number ∈ ((s.spare p).take (s.leave p)).map (·.number) ∨ x.number ≠ d.number) ∧
      d.owner = p ∧ d.state = .writing ∧ d.key = Config.randomKey s.draws ∧ d.pages = 0 ∧ d.bands = 0 ∧ d.colour = false ∧
      d.sizeClass = r.sizeClass.val ∧ d.job = some n ∧ (s.acceptOpen p r).draws = s.draws + 1 ∧
      (∀ q, ((s.acceptOpen p r).account q).map (·.balance) = (s.account q).map (·.balance)) ∧
      (s.acceptOpen p r).meters = s.meters ∧ (s.acceptOpen p r).queue = s.queue ∧ (s.acceptOpen p r).cart = s.cart ∧
      (s.acceptOpen p r).pool.mem = s.pool.mem := by
  have created := State.createDocument_recycling (s := s) (p := p) kind
  have store : (s.acceptOpen p r).store =
      { docs := (s.recycling p).store.docs ++ [s.scanDocument p r], lastNumber := (s.scanDocument p r).number } := by
    rw [State.store_acceptOpen, created]; rfl
  have draws : (s.acceptOpen p r).draws = s.draws + 1 := by
    refine (s.stopsOnly_acceptOpen p r).draws.trans ?_
    rw [State.jobAdded, created]; rfl
  have number : (s.openedJob p r).document = some (s.scanDocument p r).number := by
    have opened : ∀ t : State, t.openedNumber r = some t.store.lastNumber := fun t => by rw [State.openedNumber, kind]
    rw [State.openedJob, opened, created]; rfl
  have hold : (s.openedJob p r).initialHold =
      min (min 16000000 (r.estimate * s.rates.scanRate r.sizeClass.val)) (s.available p) := by
    have asked : s.holdAsked p r = r.estimate * s.rates.scanRate r.sizeClass.val := by rw [State.holdAsked, kind]
    show min (min Config.maxMoney (s.holdAsked p r)) (s.available p) = _
    rw [asked]; rfl
  obtain ⟨meters, queue, cart, mem⟩ := s.meters_acceptOpen p r
  refine ⟨s.nextJobNumber, s.openedJob p r, s.scanDocument p r, (State.nextJobNumber_free few).1,
    State.job_acceptOpen_scan order kind, kind, rfl, number, rfl, hold, rfl, ?_, ?_,
    fun x there => State.scanDocument_fresh docs few there, rfl, rfl, rfl, rfl, rfl, rfl, rfl, rfl, draws,
    s.balance_acceptOpen p r, meters, queue, cart, mem⟩
  · rw [store, State.docs_recycling]
  · rw [store]

/-- The acceptance of a BOX_PRINT open: the second part of O20. -/
theorem acceptOpen_boxPrint {s : State} {r : OpenRequest} {p : Nat} {d : Document} (kind : r.kind = .boxPrint)
    (few : s.jobs.jobs.length < 16) (named : s.document r.document = some d) (owner : d.owner = p) :
    ∃ (n : Nat) (j : Job), s.job n = none ∧ (s.acceptOpen p r).job n = some j ∧ j.kind = .boxPrint ∧ j.owner = p ∧
      j.document = some r.document ∧ j.sizeClass = d.sizeClass ∧ j.eraseAfterPrint = r.erase ∧
      j.initialHold = min (min 16000000 (d.pages * (s.rates.entry (entryNumber d.sizeClass
        (if d.colour then .colour else .mono) .front)).base)) (s.available p) ∧
      (s.acceptOpen p r).store = { s.store with
        docs := s.store.docs.map fun x => if x.number = r.document then { x with job := some n } else x } ∧
      (∀ q, ((s.acceptOpen p r).account q).map (·.balance) = (s.account q).map (·.balance)) ∧
      (s.acceptOpen p r).meters = s.meters ∧ (s.acceptOpen p r).cart = s.cart ∧
      (s.acceptOpen p r).pool.mem = s.pool.mem := by
  have size : (s.openedJob p r).sizeClass = d.sizeClass := by
    show s.openSize p r = _
    rw [State.openSize, if_pos kind, ownDocument_of named owner]; rfl
  have document : (s.openedJob p r).document = some r.document := by
    show State.openedNumber _ r = _
    rw [State.openedNumber, kind]
  have erase : (s.openedJob p r).eraseAfterPrint = r.erase := by
    show (r.kind == .boxPrint && r.erase) = _
    rw [kind]; rfl
  have hold : (s.openedJob p r).initialHold = min (min 16000000 (d.pages * (s.rates.entry (entryNumber d.sizeClass
        (if d.colour then .colour else .mono) .front)).base)) (s.available p) := by
    show min (min Config.maxMoney (s.holdAsked p r)) (s.available p) = _
    rw [holdAsked_boxPrint kind named owner]; rfl
  have store : (s.acceptOpen p r).store = { s.store with
      docs := s.store.docs.map fun x => if x.number = r.document then { x with job := some s.nextJobNumber } else x } := by
    rw [State.store_acceptOpen, State.openDocument, kind]; rfl
  obtain ⟨meters, _, cart, mem⟩ := s.meters_acceptOpen p r
  obtain ⟨j, listed, record⟩ := s.job_acceptOpen p r
  refine ⟨s.nextJobNumber, j, (State.nextJobNumber_free few).1, listed, ?_⟩
  rcases record with rfl | rfl
  · exact ⟨kind, rfl, document, size, erase, hold, store, s.balance_acceptOpen p r, meters, cart, mem⟩
  · exact ⟨kind, rfl, document, size, erase, hold, store, s.balance_acceptOpen p r, meters, cart, mem⟩

/-- Settles O20. -/
theorem documentJobsBindTheirDocument : Obligations.DocumentJobsBindTheirDocument := by
  refine ⟨fun s b r p idle a serving spells order kind active present low high few docs working credit box calm => ?_,
    fun s b r p idle a d serving spells kind active present named few working credit box calm held owner stored colour mono => ?_,
    fun s b r p idle a serving spells kind active present => ?_⟩
  · intro mine spare leave fits
    have good : r.rangesGood = true := by rw [rangesGood_scan kind]; exact decide_eq_true ⟨low, high⟩
    have full : s.scanStoreFull p = false := by
      refine Bool.eq_false_iff.mpr fun full => ?_
      obtain ⟨some_, lacks⟩ := (scanStoreFull_iff s p).mp full
      rcases fits with none_ | ⟨recycle, enough⟩
      · exact some_ none_
      · rcases lacks with keep | short
        · rw [recycle] at keep; cases keep
        · exact absurd short (Nat.not_lt.mpr enough)
    have accepted : s.touchSession.openRefusal p a r = none := by
      rw [openRefusal_of_pass (openChecks_scan_pass (s := s.touchSession) kind few working credit box calm), State.documentRefusal, kind]
      exact if_neg (Bool.eq_false_iff.mp full)
    have served := (serveJobOpen_store spells (Or.inl kind) active good present).trans (openFor_accepted accepted)
    obtain ⟨n, j, d, facts⟩ := acceptOpen_scan (s := s.touchSession) (p := p) order kind few docs
    exact ⟨_, n, j, d, _, requestFrame_ok serving served, facts⟩
  · have good : r.rangesGood = true := by rw [rangesGood_boxPrint kind]; exact decide_eq_true named
    have refusal : s.touchSession.openRefusal p a r = if d.job.isSome then some .inUse else none := by
      rw [openRefusal_of_pass (openChecks_boxPrint_pass (s := s.touchSession) kind held owner few working credit box calm colour mono),
        documentRefusal_boxPrint (s := s.touchSession) kind held owner stored]
    have served := serveJobOpen_store spells (Or.inr kind) active good present
    refine ⟨fun bound => ?_, fun free => ?_⟩
    · exact requestFrame_no serving (served.trans (openFor_refused (refusal.trans (if_pos bound))))
    · have accepted : s.touchSession.openRefusal p a r = none := refusal.trans (if_neg (by rw [free]; decide))
      obtain ⟨n, j, fresh, facts⟩ := acceptOpen_boxPrint (s := s.touchSession) kind few held owner
      exact ⟨_, n, j, _, requestFrame_ok serving (served.trans (openFor_accepted accepted)), fresh, facts⟩
  · exact firstApplies_of_rows (sameRows_store (s := s) (p := p) kind) fun st refused =>
      requestFrame_no serving (serveJobOpen_store_refused spells kind active present refused)

end Sys2Proof.Machine
end

section
/-! PROOFS. JOB CLOSE and the removal of jobs (O21, O22). -/

namespace Sys2Proof.Machine

namespace Core

/-- Dropping a job takes its hold off its owner's total. -/
theorem holds_drop_add {jobs : Table JobCore} {n : Nat} {j : JobCore} (up : Table.rising jobs = true)
    (found : Table.find jobs n = some j) : holds (Table.drop jobs n) j.owner + j.hold = holds jobs j.owner := by
  induction jobs with
  | nil => cases found
  | cons x rest ih =>
    obtain ⟨k, v⟩ := x
    obtain ⟨above, restUp⟩ := Table.rising_cons.mp up
    rw [Table.find_cons] at found
    rw [holds_cons]
    by_cases same : n = k
    · rw [if_pos same] at found
      obtain rfl := Option.some.inj found
      have kept : Table.drop ((k, v) :: rest) n = rest := by
        unfold Table.drop
        rw [List.filter_cons_of_neg (by simp [same])]
        refine List.filter_eq_self.mpr fun c mem => ?_
        have := above c mem
        simp only [bne_iff_ne]
        omega
      rw [kept, if_pos rfl, Nat.add_comm]
    · rw [if_neg same] at found
      have kept : Table.drop ((k, v) :: rest) n = (k, v) :: Table.drop rest n := by
        unfold Table.drop
        exact List.filter_cons_of_pos (by simpa using fun h : k = n => same h.symm)
      rw [kept, holds_cons, Nat.add_assoc, ih restUp found]

end Core

/-- What the statements follow of the jobs that stay. -/
def Job.totals (x : Job) : JobKind × Nat × Nat × Nat := (x.kind, x.holdRemaining, x.sheets, x.pointsCharged)

theorem Job.totals_stopped (j : Job) (cause : StopCause) : (j.stopped cause).totals = j.totals := by
  cases active : j.active with
  | true => rw [Job.stopped_of_active active]; rfl
  | false => rw [Job.stopped_of_inactive active]

namespace State

variable {s : State} {n : Nat} {i : Fin 4} {j : Job} {e : EndMark} {o : Option DocOutcome}

/-! ## A job leaves the table -/

/-- The record gone and JOB_DONE posted, before the stage is re-evaluated. -/
def jobGone (s : State) (j : Job) (e : EndMark) (o : Option DocOutcome) : State :=
  (s.setJobs { s.jobs with jobs := Table.drop s.jobs.jobs j.number }).post (.jobDone (s.summary j e o))

theorem stopsOnly_dropJob (s : State) (j : Job) (e : EndMark) (o : Option DocOutcome) :
    (s.jobGone j e o).StopsOnly (s.dropJob j e o) := stopsOnly_reevaluateIf ..

theorem job_jobGone (s : State) (j : Job) (e : EndMark) (o : Option DocOutcome) (m : Nat) :
    (s.jobGone j e o).job m = if m = j.number then none else s.job m := Table.find_drop ..

theorem job_dropJob_own (s : State) (j : Job) (e : EndMark) (o : Option DocOutcome) :
    (s.dropJob j e o).job j.number = none :=
  (s.stopsOnly_dropJob j e o).job_none (by rw [job_jobGone, if_pos rfl])

theorem job_dropJob_other {m : Nat} (other : m ≠ j.number) : ((s.dropJob j e o).job m).map Job.totals = (s.job m).map Job.totals := by
  rw [(s.stopsOnly_dropJob j e o).job_map Job.totals_stopped m, job_jobGone, if_neg other]

theorem balance_dropJob (s : State) (j : Job) (e : EndMark) (o : Option DocOutcome) (q : Nat) :
    ((s.dropJob j e o).account q).map (·.balance) = (s.account q).map (·.balance) :=
  (s.stopsOnly_dropJob j e o).balance q

theorem told_dropJob (room : s.link.notices.length < 64) :
    .jobDone (s.summary j e o) ∈ (s.dropJob j e o).link.notices :=
  (s.stopsOnly_dropJob j e o).notices _ (Link.mem_post_self (l := s.link) (fun h => by cases h <;> rfl) (Or.inl room)) rfl

theorem totalHolds_dropJob (order : s.jobs.InOrder) (present : s.job j.number = some j) :
    (s.dropJob j e o).totalHolds j.owner + j.holdRemaining = s.totalHolds j.owner := by
  have core : (s.jobGone j e o).core.jobs = Table.drop s.core.jobs j.number := Table.mapVal_drop ..
  have found : Table.find s.core.jobs j.number = some j.core := by rw [find_core, present]; rfl
  have up : Table.rising s.core.jobs = true := (s.inOrder_iff.mp order).1
  rw [(s.stopsOnly_dropJob j e o).totalHolds, totalHolds_eq, totalHolds_eq, core]
  exact Core.holds_drop_add up found

/-! ## The document of a removed job -/

theorem releaseDocument_eq (s : State) (j : Job) : s.releaseDocument j = s.setStore (s.releaseDocument j).store := by
  unfold releaseDocument
  split
  · rfl
  · split <;> rfl

theorem settleScanDocument_eq (s : State) (j : Job) : s.settleScanDocument j = s.setStore (s.settleScanDocument j).store := by
  unfold settleScanDocument
  split
  · rfl
  · split <;> rfl

theorem docs_absent {d : Nat} (absent : s.document d = none) : ∀ x ∈ s.store.docs, x.number ≠ d := by
  intro x mem same
  exact (List.find?_eq_none.mp absent x mem) (by simpa using same)

theorem store_releaseDocument_erased {d : Nat} (names : j.document = some d) (erase : j.eraseAfterPrint = true)
    (printed : 1 ≤ j.sheets) : (s.releaseDocument j).store.docs = s.store.docs.filter fun y => y.number != d := by
  rw [releaseDocument, names]
  cases present : s.document d with
  | none =>
    have gone : s.boxOutcome j = .gone := by rw [boxOutcome, names, Option.bind_some, present]
    dsimp only
    rw [gone]
    exact (List.filter_eq_self.mpr fun x mem => by simpa using docs_absent present x mem).symm
  | some x =>
    have erased : s.boxOutcome j = .erased := by
      rw [boxOutcome, names, Option.bind_some, present]; exact if_pos ⟨erase, printed⟩
    dsimp only
    rw [erased]; rfl

theorem store_releaseDocument_kept {d : Nat} (names : j.document = some d)
    (keep : j.eraseAfterPrint = false ∨ j.sheets = 0) : (s.releaseDocument j).store.docs =
      s.store.docs.map fun y => if y.number = d then { y with job := none } else y := by
  rw [releaseDocument, names]
  cases present : s.document d with
  | none =>
    have gone : s.boxOutcome j = .gone := by rw [boxOutcome, names, Option.bind_some, present]
    dsimp only
    rw [gone]
    refine ((List.map_congr_left (g := id) fun x mem => ?_).trans (List.map_id _)).symm
    exact if_neg (docs_absent present x mem)
  | some x =>
    have kept : s.boxOutcome j = .kept := by
      rw [boxOutcome, names, Option.bind_some, present]
      refine if_neg fun both => ?_
      rcases keep with no | none_
      · rw [no] at both; exact Bool.noConfusion both.1
      · rw [none_] at both; exact absurd both.2 (by decide)
    dsimp only
    rw [kept]; rfl

/-! ## Removal of a COPY, PRINT or BOX_PRINT job -/

/-- The state in which the document of a removed job has been seen to, and the outcome told. -/
theorem removeJob_eq (s : State) (j : Job) (e : EndMark) :
    ∃ o store, s.removeJob j e = (s.setStore store).dropJob j e o ∧
      (j.kind ≠ .boxPrint → store = s.store) ∧
      (∀ d, j.kind = .boxPrint → j.document = some d → j.eraseAfterPrint = true → 1 ≤ j.sheets →
        store.docs = s.store.docs.filter fun y => y.number != d) ∧
      (∀ d, j.kind = .boxPrint → j.document = some d → (j.eraseAfterPrint = false ∨ j.sheets = 0) →
        store.docs = s.store.docs.map fun y => if y.number = d then { y with job := none } else y) := by
  by_cases box : j.kind = .boxPrint
  · refine ⟨some (s.boxOutcome j), (s.releaseDocument j).store, ?_, fun other => absurd box other,
      fun d _ names erase printed => store_releaseDocument_erased names erase printed,
      fun d _ names keep => store_releaseDocument_kept names keep⟩
    rw [removeJob, if_pos box, ← releaseDocument_eq]
  · refine ⟨none, s.store, ?_, fun _ => rfl, fun d other => absurd other box, fun d other => absurd other box⟩
    rw [removeJob, if_neg box]; rfl

/-- What the removal of a COPY, PRINT or BOX_PRINT job leaves. -/
theorem removeJob_leaves (order : s.jobs.InOrder) (present : s.job n = some j) (e : EndMark) :
    let u := s.removeJob j e
    ∃ x : JobSummary, u.job n = none ∧ (∀ m, m ≠ n → (u.job m).map Job.totals = (s.job m).map Job.totals) ∧
      u.totalHolds j.owner + j.holdRemaining = s.totalHolds j.owner ∧
      x.number = n ∧ x.endMark = e ∧ x.stopCause = j.stopCause ∧ x.holdReleased = j.holdRemaining ∧ x.sheets = j.sheets ∧
      x.pointsCharged = j.pointsCharged ∧ x.pointsDrawn = j.pointsDrawn ∧ x.pointsArrears = j.pointsArrears ∧
      (s.link.notices.length < 64 → .jobDone x ∈ u.link.notices) ∧
      (j.kind ≠ .boxPrint → u.store = s.store) ∧
      (∀ d, j.kind = .boxPrint → j.document = some d → j.eraseAfterPrint = true → 1 ≤ j.sheets →
        u.store.docs = s.store.docs.filter fun y => y.number != d) ∧
      (∀ d, j.kind = .boxPrint → j.document = some d → (j.eraseAfterPrint = false ∨ j.sheets = 0) →
        u.store.docs = s.store.docs.map fun y => if y.number = d then { y with job := none } else y) ∧
      (∀ q, (u.account q).map (·.balance) = (s.account q).map (·.balance)) ∧ u.meters = s.meters ∧ u.queue = s.queue ∧
      u.cart = s.cart ∧ u.pool.mem = s.pool.mem := by
  obtain ⟨o, store, removed, other, erased, kept⟩ := s.removeJob_eq j e
  have only := (s.setStore store).stopsOnly_dropJob j e o
  have number : j.number = n := number_of_job order present
  subst number
  intro u
  have leaves : u = (s.setStore store).dropJob j e o := removed
  have docs : u.store = store := by rw [leaves]; exact only.store
  refine ⟨(s.setStore store).summary j e o, ?_, fun m away => ?_, ?_, rfl, rfl, rfl, rfl, rfl, rfl, rfl, rfl, fun room => ?_,
    fun kind => docs.trans (other kind), fun d kind names erase printed => ?_, fun d kind names keep => ?_, fun q => ?_, ?_, ?_, ?_, ?_⟩
  · rw [leaves]; exact job_dropJob_own ..
  · rw [leaves]; exact job_dropJob_other (s := s.setStore store) away
  · rw [leaves]; exact totalHolds_dropJob (s := s.setStore store) order present
  · rw [leaves]; exact told_dropJob (s := s.setStore store) room
  · rw [docs]; exact erased d kind names erase printed
  · rw [docs]; exact kept d kind names keep
  · rw [leaves]; exact balance_dropJob ..
  · rw [leaves]; exact only.meters
  · rw [leaves]; exact only.queue
  · rw [leaves]; exact only.cart
  · rw [leaves]; exact only.mem

end State

/-! ## JOB_END and the drain (O22) -/

section JobEnd
variable {s : State} {tag : Nat} {rest : List QueueEntry} {j : Job}

theorem exec_takeJobEnd (outside : s.resetting = none) (taking : s.queue.taking = true)
    (head : s.queue.entries = .jobEnd tag :: rest) : exec .takeJobEnd s = .next ((s.takeJobEnd tag).endTake).finish := by
  show Host.Outcome.next (outsideReset s State.jobEndTaken) = _
  rw [outsideReset_out outside, State.jobEndTaken, SheetQueue.head_of_taking taking head]

theorem queue_endTake {t : State} {e : QueueEntry} (same : t.queue = s.queue) (head : s.queue.entries = e :: rest) : t.endTake.queue =
    { entries := rest, taking := false, hold := s.queue.hold && decide (rest.length ≠ 8) } := by
  show t.queue.taken = _
  rw [same, SheetQueue.taken_of_cons head]

theorem takeJobEnd_ignored (ignored : tag = 0 ∨ s.job tag = none) : s.takeJobEnd tag = s := by
  rw [State.takeJobEnd]
  rcases ignored with zero | absent
  · exact if_pos zero
  · rw [absent]; exact ite_self _

theorem takeJobEnd_some (named : tag ≠ 0) (present : s.job tag = some j) : s.takeJobEnd tag =
    if j.kind = .scan then s else if j.state = .closing then s.removeJob j .complete
    else s.changeJob tag fun j => { j with engineEnded := true } := by
  rw [State.takeJobEnd, if_neg named, present]

/-- What a JOB_END leaves of the queue, the other jobs, the balances and the rest. -/
theorem takeJobEnd_frame (order : s.jobs.InOrder) (tag : Nat) :
    let u := s.takeJobEnd tag
    u.queue = s.queue ∧ (∀ m, m ≠ tag → (u.job m).map Job.totals = (s.job m).map Job.totals) ∧
      (∀ q, (u.account q).map (·.balance) = (s.account q).map (·.balance)) ∧ u.meters = s.meters ∧ u.cart = s.cart ∧
      u.pool.mem = s.pool.mem := by
  intro u
  by_cases ignored : tag = 0 ∨ s.job tag = none
  · have same : u = s := takeJobEnd_ignored ignored
    rw [same]
    exact ⟨rfl, fun _ _ => rfl, fun _ => rfl, rfl, rfl, rfl⟩
  · obtain ⟨named, held⟩ := not_or.mp ignored
    obtain ⟨j, present⟩ := Option.ne_none_iff_exists'.mp held
    have does : u = _ := takeJobEnd_some named present
    rw [does]
    split
    · exact ⟨rfl, fun _ _ => rfl, fun _ => rfl, rfl, rfl, rfl⟩
    · split
      · obtain ⟨x, _, others, _, _, _, _, _, _, _, _, _, _, _, _, _, balances, meters, queue, cart, mem⟩ :=
          State.removeJob_leaves order present .complete
        exact ⟨queue, others, balances, meters, cart, mem⟩
      · refine ⟨rfl, fun m away => ?_, fun _ => rfl, rfl, rfl, rfl⟩
        rw [State.job_changeJob, if_neg away]

end JobEnd

/-- Settles O22. -/
theorem jobsLeaveTheTable : Obligations.JobsLeaveTheTable := by
  refine ⟨fun s tag rest outside order taking head => ?_, fun s n j outside order present closing => ?_⟩
  · obtain ⟨queue, others, balances, meters, cart, mem⟩ := takeJobEnd_frame order tag
    refine ⟨(s.takeJobEnd tag).endTake, exec_takeJobEnd outside taking head, queue_endTake queue head, fun ignored => ?_,
      fun j named present => ⟨fun scan => ?_, fun kind running => ?_, fun kind closing => ?_⟩, others, balances, meters, cart, mem⟩
    · rw [takeJobEnd_ignored ignored]; exact ⟨rfl, rfl, rfl, rfl⟩
    · rw [takeJobEnd_some named present, if_pos scan]; exact ⟨rfl, rfl, rfl, rfl⟩
    · rw [takeJobEnd_some named present, if_neg kind, if_neg running]
      refine ⟨?_, rfl, rfl, rfl⟩
      have changed := s.job_changeJob tag (fun j => { j with engineEnded := true }) tag
      rw [if_pos rfl, present] at changed
      exact changed
    · rw [takeJobEnd_some named present, if_neg kind, if_pos closing]
      obtain ⟨x, gone, _, _, number, mark, _, hold, _, _, _, _, told, _⟩ := State.removeJob_leaves order present .complete
      exact ⟨gone, x, number, mark, hold, told⟩
  · obtain ⟨x, gone, others, holds, number, mark, cause, hold, sheets, charged, drawn, arrears, told, store, erased, kept, rest⟩ :=
      State.removeJob_leaves order present .unsettled
    refine ⟨s.removeJob j .unsettled, x, ?_, gone, others, holds, number, mark, cause, hold, sheets, charged, drawn, arrears,
      told, store, erased, kept, rest⟩
    show Host.Outcome.next (outsideReset s fun s => s.expireDrain n) = _
    rw [outsideReset_out outside, State.expireDrain, present]
    dsimp only
    rw [if_pos closing]

end Sys2Proof.Machine
end

section
/-! PROOFS. JOB CLOSE (O21). -/

namespace Sys2Proof.Machine

section Close
variable {s : State} {n : Nat} {j : Job} {i : Fin 4}

/-- Either half in the cipher unit or being sent is in hand. -/
theorem Stream.inHand_of_half {st : Stream} {b : Bool} (busy : (st.half b).state = .cipher ∨ (st.half b).state = .sending) :
    st.inHand = true := by
  cases b <;> rcases busy with state | state <;> simp_all [Stream.inHand, Stream.anyHalf, Stream.half]

theorem serveJobClose_present (fits : n < 65536) (present : s.job n = some j) : serveJobClose (be 2 n) s =
    if j.state = .closing then refuse s .busy else if s.streamInHand j then refuse s .busy
    else okWith (s.closeJob j) ((s.closeJob j).closeReply j) := by
  rw [serveJobClose, parseNumber_be (n := 2) fits, withParsed_some, withJob_some present]

theorem serveJobClose_absent (fits : n < 65536) (absent : s.job n = none) :
    serveJobClose (be 2 n) s = refuse s .range := by
  rw [serveJobClose, parseNumber_be (n := 2) fits, withParsed_some, withJob_none absent]

/-! ## The stream unbound -/

/-- What the unbinding of a job's stream leaves as it was. -/
theorem unbindJob_frame (s : State) (j : Job) : (s.unbindJob j).store = s.store ∧ (s.unbindJob j).accounts = s.accounts ∧
    (s.unbindJob j).meters = s.meters ∧ (s.unbindJob j).queue = s.queue ∧ (s.unbindJob j).cart = s.cart ∧
    (s.unbindJob j).pool.mem = s.pool.mem := by
  unfold State.unbindJob
  split
  · exact ⟨rfl, rfl, rfl, rfl, rfl, rfl⟩
  · next i _ => rw [State.unbind_eq_setJobs]; exact ⟨rfl, rfl, rfl, rfl, rfl, rfl⟩

theorem unbindJob_stream (bound : j.stream = some i) : (s.unbindJob j).stream i = {} ∧
    (s.unbindJob j).pool.wipe = s.pool.wipe ++ ((s.stream i).window.map Window.range).toList := by
  rw [State.unbindJob, bound]
  exact ⟨State.stream_unbind_same s i, by rw [State.unbind_pool]⟩

/-- The job itself afterwards: without its stream, where the stream names it. -/
theorem job_unbindJob_eq (present : s.job n = some j) : ∃ x, (s.unbindJob j).job n = some x ∧
    { x with stream := none } = { j with stream := none } ∧
    ∀ i, j.stream = some i → (s.stream i).job = some n → x.stream = none := by
  unfold State.unbindJob
  split
  · next free => exact ⟨j, present, rfl, fun i bound => by rw [free] at bound; cases bound⟩
  · next k bound =>
    by_cases names : (s.stream k).job = some n
    · exact ⟨_, State.job_unbind_own names present, rfl, fun _ _ _ => rfl⟩
    · refine ⟨j, (State.job_unbind_other names).trans present, rfl, fun i other names_ => ?_⟩
      rw [bound] at other
      rw [← Option.some.inj other] at names_
      exact absurd names_ names

/-! ## What the kind decides -/

/-- A SCAN job's document is stored where the scan is complete, and erased where it is not. -/
theorem store_settleScanDocument {d : Nat} (names : j.document = some d) :
    (j.scanComplete = true → (s.settleScanDocument j).store.docs =
      s.store.docs.map fun x => if x.number = d then { x with state := .stored, job := none } else x) ∧
    (j.scanComplete = false → (s.settleScanDocument j).store.docs = s.store.docs.filter fun x => x.number != d) := by
  rw [State.settleScanDocument, names]
  dsimp only
  refine ⟨fun complete => ?_, fun incomplete => ?_⟩
  · rw [if_pos complete]; rfl
  · rw [if_neg (by rw [incomplete]; decide)]; rfl

/-- A closed job that leaves the table does so through `dropJob`, its document seen to. -/
theorem closeKind_drops (ends : j.kind = .scan ∨ j.engineEnded = true) : ∃ store e o,
    s.closeKind j = (s.setStore store).dropJob j e o ∧
    (j.kind = .scan → ∀ d, j.document = some d →
      (j.scanComplete = true → store.docs =
        s.store.docs.map fun x => if x.number = d then { x with state := .stored, job := none } else x) ∧
      (j.scanComplete = false → store.docs = s.store.docs.filter fun x => x.number != d)) := by
  by_cases scan : j.kind = .scan
  · refine ⟨(s.settleScanDocument j).store, (s.scanOutcome j).1, some (s.scanOutcome j).2, ?_,
      fun _ d names => store_settleScanDocument names⟩
    rw [State.closeKind, if_pos scan, State.removeScanJob, ← State.settleScanDocument_eq]
  · obtain ⟨o, store, removed, _⟩ := s.removeJob_eq j .complete
    refine ⟨store, .complete, o, ?_, fun kind => absurd kind scan⟩
    rw [State.closeKind, if_neg scan, if_pos (ends.resolve_left scan), removed]

theorem closeKind_drains (kind : j.kind ≠ .scan) (running : j.engineEnded = false) :
    s.closeKind j = s.changeJob j.number fun j => { j with state := .closing, drain := some 0 } := by
  rw [State.closeKind, if_neg kind, if_neg (by rw [running]; decide)]

end Close

/-- An accepted JOB CLOSE of a job that leaves the table. -/
theorem closeJob_drops {s : State} {n : Nat} {j : Job} (number : j.number = n)
    (ends : j.kind = .scan ∨ j.engineEnded = true) :
    let u := s.closeJob j
    (∀ i, j.stream = some i → u.stream i = {} ∧
      u.pool.wipe = s.pool.wipe ++ ((s.stream i).window.map Window.range).toList) ∧ u.job n = none ∧
    (j.kind = .scan → j.scanComplete = true → ∀ d, j.document = some d →
      u.store.docs = s.store.docs.map fun x => if x.number = d then { x with state := .stored, job := none } else x) ∧
    (j.kind = .scan → j.scanComplete = false → ∀ d, j.document = some d →
      u.store.docs = s.store.docs.filter fun x => x.number != d) ∧
    (∀ q, (u.account q).map (·.balance) = (s.account q).map (·.balance)) ∧ u.meters = s.meters ∧ u.queue = s.queue ∧
    u.cart = s.cart ∧ u.pool.mem = s.pool.mem := by
  subst number
  intro u
  have streams : ∀ i, j.stream = some i → (s.unbindJob j).stream i = {} ∧ (s.unbindJob j).pool.wipe = _ :=
    fun i bound => unbindJob_stream (s := s) bound
  obtain ⟨before, accounts, meters, queue, cart, mem⟩ := unbindJob_frame s j
  obtain ⟨store, e, o, drops, document⟩ := closeKind_drops (s := s.unbindJob j) (j := { j with stream := none }) ends
  have leaves : u = ((s.unbindJob j).setStore store).dropJob { j with stream := none } e o := drops
  have only := ((s.unbindJob j).setStore store).stopsOnly_dropJob { j with stream := none } e o
  have docs : u.store = store := by rw [leaves]; exact only.store
  rw [before] at document
  refine ⟨fun i bound => ?_, ?_, fun scan complete d names => ?_, fun scan incomplete d names => ?_, fun q => ?_, ?_, ?_, ?_, ?_⟩
  · obtain ⟨idle, wipe⟩ := streams i bound
    have kept : u.stream i = (s.unbindJob j).stream i := by
      rw [leaves]
      refine only.streams i ?_
      show ((s.unbindJob j).stream i).holdOrFlow = false
      rw [idle]; rfl
    have wipes : u.pool.wipe = (s.unbindJob j).pool.wipe := by rw [leaves]; exact only.wipe
    exact ⟨kept.trans idle, wipes.trans wipe⟩
  · rw [leaves]; exact State.job_dropJob_own ..
  · rw [docs]; exact (document scan d names).1 complete
  · rw [docs]; exact (document scan d names).2 incomplete
  · have same : (s.unbindJob j).account q = s.account q := by rw [State.account, accounts]; rfl
    rw [leaves, ← same]; exact only.balance q
  · rw [leaves, ← meters]; exact only.meters
  · rw [leaves, ← queue]; exact only.queue
  · rw [leaves, ← cart]; exact only.cart
  · rw [leaves, ← mem]; exact only.mem

/-- An accepted JOB CLOSE of a job that drains. -/
theorem closeJob_drains {s : State} {n : Nat} {j : Job} (number : j.number = n) (present : s.job n = some j)
    (kind : j.kind ≠ .scan) (running : j.engineEnded = false) :
    let u := s.closeJob j
    (∀ i, j.stream = some i → u.stream i = {} ∧
      u.pool.wipe = s.pool.wipe ++ ((s.stream i).window.map Window.range).toList) ∧ u.store = s.store ∧
    (∃ k, u.job n = some k ∧ { k with stream := none } = { j with stream := none, state := .closing, drain := some 0 } ∧
      k.state = .closing ∧ ∀ i, j.stream = some i → (s.stream i).job = some n → k.stream = none) ∧
    (∀ q, (u.account q).map (·.balance) = (s.account q).map (·.balance)) ∧ u.meters = s.meters ∧ u.queue = s.queue ∧
    u.cart = s.cart ∧ u.pool.mem = s.pool.mem := by
  subst number
  intro u
  have streams : ∀ i, j.stream = some i → (s.unbindJob j).stream i = {} ∧ (s.unbindJob j).pool.wipe = _ :=
    fun i bound => unbindJob_stream (s := s) bound
  obtain ⟨x, listed, fields, free⟩ := job_unbindJob_eq present
  obtain ⟨before, accounts, meters, queue, cart, mem⟩ := unbindJob_frame s j
  have leaves : u = (s.unbindJob j).changeJob j.number fun j => { j with state := .closing, drain := some 0 } :=
    closeKind_drains (s := s.unbindJob j) (j := { j with stream := none }) kind running
  have closed : u.job j.number = some { x with state := .closing, drain := some 0 } := by
    rw [leaves, State.job_changeJob, if_pos rfl, listed]; rfl
  refine ⟨fun i bound => ?_, ?_, ⟨_, closed, ?_, rfl, free⟩, fun q => ?_, ?_, ?_, ?_, ?_⟩
  · rw [leaves]; exact streams i bound
  · rw [leaves]; exact before
  · exact congrArg (fun y : Job => { y with state := .closing, drain := some 0 }) fields
  · have same : (s.unbindJob j).account q = s.account q := by rw [State.account, accounts]; rfl
    rw [leaves, ← same]; rfl
  · rw [leaves]; exact meters
  · rw [leaves]; exact queue
  · rw [leaves]; exact cart
  · rw [leaves]; exact mem

theorem closeReply_none {t : State} {j : Job} (gone : t.job j.number = none) :
    t.closeReply j = 4 :: (be 4 j.sheets ++ be 8 j.pointsCharged) := by
  rw [State.closeReply, gone]; rfl

theorem closeReply_closing {t : State} {j k : Job} (listed : t.job j.number = some k) (closing : k.state = .closing) :
    t.closeReply j = 3 :: (be 4 j.sheets ++ be 8 j.pointsCharged) := by
  rw [State.closeReply, listed, Option.map_some, closing]; rfl

/-- Settles O21. -/
theorem jobCloseEndsOrDrains : Obligations.JobCloseEndsOrDrains := by
  refine ⟨fun s n serving fits absent => requestFrame_no serving (serveJobClose_absent fits absent),
    fun s n j serving fits order present => ⟨fun closing => ?_, fun i b open_ bound busy => ?_, fun open_ free => ?_⟩⟩
  · exact requestFrame_no serving ((serveJobClose_present fits present).trans (if_pos closing))
  · refine requestFrame_no serving ((serveJobClose_present fits present).trans ?_)
    have held : s.streamInHand j = true := by
      rw [State.streamInHand, bound]
      rcases busy with flow | hand
      · simp [flow]
      · simp [Stream.inHand_of_half hand]
    rw [if_neg open_, if_pos held]
  · have number : j.number = n := State.number_of_job order present
    have idle : ¬ s.streamInHand j = true := by
      rw [State.streamInHand]
      split
      · decide
      · next i bound => simp [free i bound]
    have served : serveJobClose (be 2 n) s = okWith (s.closeJob j) ((s.closeJob j).closeReply j) := by
      rw [serveJobClose_present fits present, if_neg open_, if_neg idle]
    by_cases ends : j.kind = .scan ∨ j.engineEnded = true
    · obtain ⟨streams, gone, stored, erased, rest⟩ := closeJob_drops (s := s) number ends
      refine ⟨s.closeJob j, 4, requestFrame_ok serving ?_, streams, fun _ => ⟨gone, rfl⟩, fun kind running => ?_, stored, erased,
        rest⟩
      · rw [served, closeReply_none (number ▸ gone)]
      · rcases ends with scan | ended
        · exact absurd scan kind
        · rw [running] at ended; cases ended
    · obtain ⟨kind, ended⟩ := not_or.mp ends
      have running : j.engineEnded = false := Bool.eq_false_iff.mpr ended
      obtain ⟨streams, store, ⟨k, listed, fields, closing, unbound⟩, rest⟩ := closeJob_drains (s := s) number present kind running
      refine ⟨s.closeJob j, 3, requestFrame_ok serving ?_, streams, fun other => absurd other ends,
        fun _ _ => ⟨store, rfl, k, listed, fields, unbound⟩, fun scan => absurd scan kind, fun scan => absurd scan kind, rest⟩
      rw [served, closeReply_closing (number ▸ listed) closing]

end Sys2Proof.Machine
end

section
/-! PROOFS. Toner: what a posting does to a slot and to the meters (O36), and the levels (O37). -/

namespace Sys2Proof.Machine

theorem Four.set_get {α : Type} (q : Four α) (i : Fin 4) : q.set i (q.get i) = q := by
  fin_cases i <;> rfl

theorem Meters.addAll_untracked (m : Meters) (n : Nat) :
    m.addAll { untrackedPlaneSides := n } = { m with untrackedPlaneSides := m.untrackedPlaneSides.add n } := by
  simp [Meters.addAll]

/-- The parts of an amount may be added one after the other, whatever the meter reads. -/
theorem Meter.add_add_any (m : Meter) (n k : Nat) : (m.add n).add k = m.add (n + k) := by
  by_cases range : m.value ≤ Config.meterTop
  · exact Meter.add_add range k
  · have beyond : ∀ x, x ≠ 0 → m.add x = { value := Config.meterTop, full := true } := fun x some_ => by
      rw [Meter.add, if_neg some_, if_neg (by omega)]
    by_cases zero : n = 0
    · rw [zero, Meter.add_zero, Nat.zero_add]
    · rw [beyond n zero, beyond (n + k) (by omega)]
      exact Meter.add_of_full rfl rfl

/-! ## One plane -/

/-- A slot after a posting of one plane, given what the slot unit has in progress for it. -/
def Slot.posted (sl : Slot) (interval : Nat) (challenging : Bool) (inFlight : Nat) (p : Posting) : Slot :=
  if p.kilodots = 0 ∨ sl.state.keeps = false then sl
  else
    let kept := (sl.keep p).verifyIfDue interval challenging
    if 4096 ≤ kept.pending - inFlight - kept.unconfirmed.getD 0 then kept.askDebit else kept

/-- The sides of a posting that its slot does not keep. -/
def Slot.untracked (sl : Slot) (p : Posting) : Nat := if p.kilodots = 0 ∨ sl.state.keeps = true then 0 else p.sides

theorem SlotState.keeps_eq_false_iff (st : SlotState) : st.keeps = false ↔ st = .empty ∨ st = .rejected := by
  cases st <;> simp [SlotState.keeps]

namespace State

variable {s : State} {i k : Fin 4} {p : Posting}

/-- The slot of a plane after its posting. -/
def planePosted (s : State) (i : Fin 4) (p : Posting) : Slot :=
  (s.slot i).posted s.settings.verifyInterval (s.cart.challenging i) (s.cart.inFlight i) p

theorem setSlot_slot (s : State) (i : Fin 4) : s.setSlot i (s.slot i) = s := by
  rw [setSlot, slot, Four.set_get]; rfl

theorem uncovered_setSlot (s : State) (i : Fin 4) (sl : Slot) :
    (s.setSlot i sl).cart.uncovered i = sl.pending - s.cart.inFlight i - sl.unconfirmed.getD 0 := by
  have same : (s.setSlot i sl).cart.slots.get i = sl := slot_setSlot_same ..
  rw [CartUnit.uncovered, same]; rfl

theorem debitAtQuantum_setSlot (s : State) (i : Fin 4) (sl : Slot) : (s.setSlot i sl).debitAtQuantum i =
    s.setSlot i (if 4096 ≤ sl.pending - s.cart.inFlight i - sl.unconfirmed.getD 0 then sl.askDebit else sl) := by
  rw [debitAtQuantum, uncovered_setSlot]
  by_cases due : 4096 ≤ sl.pending - s.cart.inFlight i - sl.unconfirmed.getD 0
  · have quantum : Config.writeQuantum ≤ sl.pending - s.cart.inFlight i - sl.unconfirmed.getD 0 := due
    rw [if_pos quantum, if_pos due, changeSlot, slot_setSlot_same, setSlot_setSlot]
  · have quantum : ¬ Config.writeQuantum ≤ sl.pending - s.cart.inFlight i - sl.unconfirmed.getD 0 := due
    rw [if_neg quantum, if_neg due]

/-- What a posting of one plane writes: its slot, and the meter of untracked sides. -/
theorem postPlane_eq (s : State) (i : Fin 4) (p : Posting) : s.postPlane i p =
    (s.setSlot i (s.planePosted i p)).setMeters
      { s.meters with untrackedPlaneSides := s.meters.untrackedPlaneSides.add ((s.slot i).untracked p) } := by
  have still : ∀ n, n = 0 → (s.setSlot i (s.slot i)).setMeters
      { s.meters with untrackedPlaneSides := s.meters.untrackedPlaneSides.add n } = s := by
    rintro n rfl
    rw [setSlot_slot, Meter.add_zero]; rfl
  unfold postPlane planePosted Slot.posted Slot.untracked
  by_cases blank : p.kilodots = 0
  · rw [if_pos blank, if_pos (Or.inl blank), if_pos (Or.inl blank), still 0 rfl]
  · rw [if_neg blank]
    cases keeps : (s.slot i).state.keeps with
    | true =>
      rw [if_pos rfl, if_neg (by simp [blank]), if_pos (Or.inr rfl), Meter.add_zero, changeSlot, debitAtQuantum_setSlot]
      rfl
    | false =>
      rw [if_neg (by decide), if_pos (Or.inr rfl), if_neg (by simp [blank]), setSlot_slot, addMeters, Meters.addAll_untracked]

theorem slot_postPlane_same (s : State) (i : Fin 4) (p : Posting) : (s.postPlane i p).slot i = s.planePosted i p := by
  rw [postPlane_eq]; exact slot_setSlot_same ..

theorem slot_postPlane_other (other : k ≠ i) : (s.postPlane i p).slot k = s.slot k := by
  rw [postPlane_eq]; exact slot_setSlot_other _ _ other

/-- What a posting of a plane leaves of all that the posting of another plane looks at. -/
theorem postPlane_frame (s : State) (i : Fin 4) (p : Posting) : (s.postPlane i p).settings = s.settings ∧
    (s.postPlane i p).cart.transaction = s.cart.transaction := by
  rw [postPlane_eq]; exact ⟨rfl, rfl⟩

theorem planePosted_congr {t : State} (slot : t.slot i = s.slot i) (settings : t.settings = s.settings)
    (transaction : t.cart.transaction = s.cart.transaction) (p : Posting) : t.planePosted i p = s.planePosted i p := by
  rw [planePosted, planePosted, slot, settings, CartUnit.challenging, CartUnit.challenging, CartUnit.inFlight,
    CartUnit.inFlight, transaction]

theorem planePosted_postPlane (other : k ≠ i) (q : Posting) :
    (s.postPlane i p).planePosted k q = s.planePosted k q := by
  obtain ⟨settings, transaction⟩ := s.postPlane_frame i p
  exact planePosted_congr (slot_postPlane_other other) settings transaction q

theorem untracked_postPlane (s : State) (i : Fin 4) (p : Posting) : (s.postPlane i p).meters =
    { s.meters with untrackedPlaneSides := s.meters.untrackedPlaneSides.add ((s.slot i).untracked p) } := by
  rw [postPlane_eq]; rfl

/-- Only the cartridge unit and the meters are different. -/
def CartAndMeters (s t : State) : Prop := ∃ cart meters, t = (s.setCart cart).setMeters meters

theorem CartAndMeters.trans {t u : State} (first : s.CartAndMeters t) (second : t.CartAndMeters u) : s.CartAndMeters u := by
  obtain ⟨c, m, rfl⟩ := first
  obtain ⟨c', m', rfl⟩ := second
  exact ⟨c', m', rfl⟩

/-- What a posting of a plane leaves of everything else. -/
theorem postPlane_rest (s : State) (i : Fin 4) (p : Posting) : s.CartAndMeters (s.postPlane i p) := by
  rw [postPlane_eq]; exact ⟨_, _, rfl⟩

end State

/-! ## A sheet -/

/-- The plane of the dots that a slot takes. -/
def Dots.plane (i : Fin 4) (d : Dots) : Nat := if i = 0 then d.k else if i = 1 then d.c else if i = 2 then d.m else d.y

/-- The posting of a sheet to a slot. -/
def SheetRecord.slotPosting (r : SheetRecord) (a : Option Attribution) (i : Fin 4) : Posting := r.posting (Dots.plane i) a

namespace State

variable {s : State}

theorem postSheet_eq (s : State) (r : SheetRecord) (a : Option Attribution) : s.postSheet r a =
    (((s.postPlane 0 (r.slotPosting a 0)).postPlane 1 (r.slotPosting a 1)).postPlane 2 (r.slotPosting a 2)).postPlane 3
      (r.slotPosting a 3) := rfl

theorem slot_postSheet (s : State) (r : SheetRecord) (a : Option Attribution) (i : Fin 4) :
    (s.postSheet r a).slot i = s.planePosted i (r.slotPosting a i) := by
  rw [postSheet_eq]
  have cases : i = 0 ∨ i = 1 ∨ i = 2 ∨ i = 3 := by omega
  rcases cases with rfl | rfl | rfl | rfl
  · rw [slot_postPlane_other (by decide), slot_postPlane_other (by decide), slot_postPlane_other (by decide),
      slot_postPlane_same]
  · rw [slot_postPlane_other (by decide), slot_postPlane_other (by decide), slot_postPlane_same,
      planePosted_postPlane (by decide)]
  · rw [slot_postPlane_other (by decide), slot_postPlane_same, planePosted_postPlane (by decide),
      planePosted_postPlane (by decide)]
  · rw [slot_postPlane_same, planePosted_postPlane (by decide), planePosted_postPlane (by decide),
      planePosted_postPlane (by decide)]

/-- The sides of a sheet that no slot keeps. -/
def untrackedSides (s : State) (r : SheetRecord) : Nat :=
  (s.slot 0).untracked (r.slotPosting none 0) + (s.slot 1).untracked (r.slotPosting none 1)
    + (s.slot 2).untracked (r.slotPosting none 2) + (s.slot 3).untracked (r.slotPosting none 3)

theorem untracked_attribution (sl : Slot) (r : SheetRecord) (a : Option Attribution) (i : Fin 4) :
    sl.untracked (r.slotPosting a i) = sl.untracked (r.slotPosting none i) := rfl

theorem meters_postSheet (s : State) (r : SheetRecord) (a : Option Attribution) : (s.postSheet r a).meters =
    { s.meters with untrackedPlaneSides := s.meters.untrackedPlaneSides.add (s.untrackedSides r) } := by
  have first : ((s.postPlane 0 (r.slotPosting a 0)).slot 1) = s.slot 1 := slot_postPlane_other (by decide)
  have second : (((s.postPlane 0 (r.slotPosting a 0)).postPlane 1 (r.slotPosting a 1)).slot 2) = s.slot 2 := by
    rw [slot_postPlane_other (by decide), slot_postPlane_other (by decide)]
  have third : ((((s.postPlane 0 (r.slotPosting a 0)).postPlane 1 (r.slotPosting a 1)).postPlane 2
      (r.slotPosting a 2)).slot 3) = s.slot 3 := by
    rw [slot_postPlane_other (by decide), slot_postPlane_other (by decide), slot_postPlane_other (by decide)]
  rw [postSheet_eq, untracked_postPlane, untracked_postPlane, untracked_postPlane, untracked_postPlane, first, second, third]
  simp only [Meter.add_add_any, untracked_attribution, untrackedSides]

theorem postSheet_rest (s : State) (r : SheetRecord) (a : Option Attribution) : s.CartAndMeters (s.postSheet r a) :=
  (((s.postPlane_rest 0 _).trans (postPlane_rest _ 1 _)).trans (postPlane_rest _ 2 _)).trans (postPlane_rest _ 3 _)

end State

/-! ## The clauses about one slot -/

theorem posting_kilodots (r : SheetRecord) (a : Option Attribution) (i : Fin 4) :
    (r.slotPosting a i).kilodots = Dots.plane i r.side1 + (r.side2.map (Dots.plane i)).getD 0 := by
  unfold SheetRecord.slotPosting SheetRecord.posting SheetRecord.planeDots
  cases r.side2 <;> simp

/-- The sides of a slot that it does not keep, counted side by side. -/
theorem untracked_eq (sl : Slot) (r : SheetRecord) (i : Fin 4) : sl.untracked (r.slotPosting none i) =
    if sl.state = .empty ∨ sl.state = .rejected then
      (if 0 < Dots.plane i r.side1 then 1 else 0) + (if 0 < (r.side2.map (Dots.plane i)).getD 0 then 1 else 0)
    else 0 := by
  have dots := posting_kilodots r none i
  have sides : (r.slotPosting none i).sides =
      (if 0 < Dots.plane i r.side1 then 1 else 0) + (if 0 < (r.side2.map (Dots.plane i)).getD 0 then 1 else 0) := by
    unfold SheetRecord.slotPosting SheetRecord.posting SheetRecord.planeDots
    cases r.side2 <;> simp [List.countP_cons, Nat.add_comm]
  rw [Slot.untracked, dots, sides]
  by_cases loses : sl.state = .empty ∨ sl.state = .rejected
  · have lost : ¬ sl.state.keeps = true := by rw [(sl.state.keeps_eq_false_iff).mpr loses]; decide
    rw [if_pos loses]
    split
    · next blank =>
      rcases blank with zero | keeps
      · have one : ¬ 0 < Dots.plane i r.side1 := by omega
        have two : ¬ 0 < (r.side2.map (Dots.plane i)).getD 0 := by omega
        rw [if_neg one, if_neg two]
      · exact absurd keeps lost
    · rfl
  · have keeps : sl.state.keeps = true := eq_true_of_ne_false (mt (sl.state.keeps_eq_false_iff).mp loses)
    rw [if_neg loses, if_pos (Or.inr keeps)]

section Posted
variable {sl : Slot} {interval inFlight : Nat} {challenging : Bool} {p : Posting}

theorem Slot.posted_unkept (unkept : p.kilodots = 0 ∨ sl.state.keeps = false) :
    sl.posted interval challenging inFlight p = sl := if_pos unkept

/-- What the verify interval decides about a kept posting. -/
theorem Slot.posted_kept (dots : p.kilodots ≠ 0) (keeps : sl.state.keeps = true) :
    let after := sl.posted interval challenging inFlight p
    let due := sl.state = .genuine ∧ interval ≤ sl.sinceVerify + 1
    after.pending = min 4294967295 (sl.pending + p.kilodots) ∧ after.sinceInsertion = min 16777215 (sl.sinceInsertion + 1) ∧
      after.flush = some 0 ∧ after.attribution = (if p.attribution.isSome then p.attribution else sl.attribution) ∧
      after.state = sl.state ∧ after.serial = sl.serial ∧ after.tagRemaining = sl.tagRemaining ∧ after.fails = sl.fails ∧
      after.sinceVerify = (if due then 0 else if sl.state = .genuine then sl.sinceVerify + 1 else sl.sinceVerify) ∧
      after.requests.challenge = (if due ∧ challenging = false then true else sl.requests.challenge) ∧
      (4096 ≤ after.pending - inFlight - sl.unconfirmed.getD 0 → after.requests.debit = true) ∧
      (after.pending - inFlight - sl.unconfirmed.getD 0 < 4096 → after.requests.debit = sl.requests.debit) ∧
      after.requests.identify = sl.requests.identify := by
  have taken : ¬ (p.kilodots = 0 ∨ sl.state.keeps = false) := by simp [dots, keeps]
  have counted : (sl.keep p).sinceVerify = if sl.state = .genuine then sl.sinceVerify + 1 else sl.sinceVerify := rfl
  have verify : (sl.keep p).verifyIfDue interval challenging =
      { sl.keep p with
        sinceVerify := if sl.state = .genuine ∧ interval ≤ sl.sinceVerify + 1 then 0 else (sl.keep p).sinceVerify
        requests := { sl.requests with challenge :=
          if (sl.state = .genuine ∧ interval ≤ sl.sinceVerify + 1) ∧ challenging = false then true
          else sl.requests.challenge } } := by
    by_cases genuine : sl.state = .genuine
    · have now : (sl.keep p).sinceVerify = sl.sinceVerify + 1 := by rw [counted, if_pos genuine]
      have state : (sl.keep p).state = .genuine := genuine
      rw [Slot.verifyIfDue, now]
      by_cases due : interval ≤ sl.sinceVerify + 1
      · rw [if_pos ⟨state, due⟩, if_pos ⟨genuine, due⟩]
        cases challenging with
        | true => rw [if_neg (by simp)]; rfl
        | false => rw [if_pos ⟨⟨genuine, due⟩, rfl⟩]; rfl
      · rw [if_neg (by simp [due]), if_neg (by simp [due]), if_neg (by simp [due]), ← now]
        rfl
    · have state : ¬ (sl.keep p).state = .genuine := genuine
      rw [Slot.verifyIfDue, if_neg (by simp [state]), if_neg (by simp [genuine]), if_neg (by simp [genuine])]
      rfl
  intro after due
  have is : after = if 4096 ≤ (sl.keep p).pending - inFlight - sl.unconfirmed.getD 0
      then ((sl.keep p).verifyIfDue interval challenging).askDebit else (sl.keep p).verifyIfDue interval challenging := by
    show sl.posted interval challenging inFlight p = _
    rw [Slot.posted, if_neg taken, verify]
    rfl
  clear_value after
  rw [verify] at is
  split at is
  · next much =>
    rw [is]
    exact ⟨rfl, rfl, rfl, rfl, rfl, rfl, rfl, rfl, rfl, rfl, fun _ => rfl, fun few => absurd much (Nat.not_le.mpr few), rfl⟩
  · next few =>
    rw [is]
    exact ⟨rfl, rfl, rfl, rfl, rfl, rfl, rfl, rfl, rfl, rfl, fun much => absurd much few, fun _ => rfl, rfl⟩

end Posted

theorem challenging_eq_true_iff (u : CartUnit) (i : Fin 4) : u.challenging i = true ↔
    ∃ t c e, u.transaction = some t ∧ t.slot = i ∧ t.work = .challenge c e := by
  unfold CartUnit.challenging
  cases transaction : u.transaction with
  | none => simp
  | some t =>
    obtain ⟨slot, work⟩ := t
    cases work <;> simp

theorem untrackedSides_eq (s : State) (r : SheetRecord) :
    let sides (k : Fin 4) (f : Dots → Nat) : Nat :=
      if (s.slot k).state = .empty ∨ (s.slot k).state = .rejected then
        (if 0 < f r.side1 then 1 else 0) + (if 0 < (r.side2.map f).getD 0 then 1 else 0)
      else 0
    s.untrackedSides r = sides 0 Dots.k + sides 1 Dots.c + sides 2 Dots.m + sides 3 Dots.y := by
  intro sides
  rw [State.untrackedSides, untracked_eq, untracked_eq, untracked_eq, untracked_eq]
  rfl

/-- Settles O36. -/
theorem postingsReachTheirSlots : Obligations.PostingsReachTheirSlots := by
  intro s r a i plane dots sl after
  have is : after = sl.posted s.settings.verifyInterval (s.cart.challenging i) (s.cart.inFlight i) (r.slotPosting a i) :=
    s.slot_postSheet r a i
  have kilodots : (r.slotPosting a i).kilodots = dots := posting_kilodots r a i
  obtain ⟨cart, meters, rest⟩ := s.postSheet_rest r a
  refine ⟨fun blank => ?_, fun unkept => ?_, fun some_ present listed => ?_, ?_, ?_, ?_, ?_, ?_⟩
  · rw [is]; exact Slot.posted_unkept (Or.inl (kilodots.trans blank))
  · rw [is]; exact Slot.posted_unkept (Or.inr ((sl.state.keeps_eq_false_iff).mpr unkept))
  · have keeps : sl.state.keeps = true :=
      eq_true_of_ne_false fun no => ((sl.state.keeps_eq_false_iff).mp no).elim present listed
    obtain ⟨pending, insertion, flush, attribution, state, serial, tag, fails, verify, challenge, debit, noDebit, identify⟩ :=
      Slot.posted_kept (interval := s.settings.verifyInterval) (challenging := s.cart.challenging i)
        (inFlight := s.cart.inFlight i) (p := r.slotPosting a i) (by rw [kilodots]; exact some_) keeps
    rw [← is] at pending insertion flush attribution state serial tag fails verify challenge debit noDebit identify
    rw [kilodots] at pending
    have holder : after.attribution = if a = none then sl.attribution else a := by
      rw [attribution]
      cases a <;> rfl
    refine ⟨pending, insertion, flush, holder, state, serial, tag, fails, fun other => ?_, fun genuine before => ?_,
      fun genuine reached => ⟨?_, fun free => ?_⟩, fun calm => ?_, ⟨debit, noDebit⟩, identify⟩
    · rw [verify, if_neg (fun due => other due.1), if_neg other]
    · rw [verify, if_neg (fun due => absurd due.2 (Nat.not_le.mpr before)), if_pos genuine]
    · rw [verify, if_pos ⟨genuine, reached⟩]
    · have idle : s.cart.challenging i = false := eq_false_of_ne_true fun busy => by
        obtain ⟨t, c, e, transaction, slot, work⟩ := (challenging_eq_true_iff s.cart i).mp busy
        exact free t c e transaction slot work
      rw [challenge, if_pos ⟨⟨genuine, reached⟩, idle⟩]
    · rw [challenge, if_neg]
      rintro ⟨⟨genuine, reached⟩, idle⟩
      rcases calm with other | before | busy
      · exact other genuine
      · exact absurd reached (Nat.not_le.mpr before)
      · rw [(challenging_eq_true_iff s.cart i).mpr busy] at idle
        cases idle
  · exact (s.meters_postSheet r a).trans (by rw [untrackedSides_eq])
  all_goals rw [rest]; rfl

/-! ## Levels -/

theorem Slot.levelNow_eq (sl : Slot) (mark : Nat) : sl.levelNow mark = sl.view.map fun v =>
    if v = 0 then .out else if v ≤ sl.ratedYield.getD 0 * mark / 1000 then .low else .normal := rfl

theorem Slot.usable_iff (sl : Slot) : sl.usable = true ↔
    (sl.state = .genuine ∨ sl.state = .suspect) ∧ (sl.level = some .low ∨ sl.level = some .normal) := by
  rw [Slot.usable, Bool.and_eq_true_iff, Bool.or_eq_true_iff, beq_iff_eq, beq_iff_eq]
  refine and_congr_left fun _ => ?_
  cases sl.state <;> simp [SlotState.trusted]

/-- Settles O37. -/
theorem levelsDecideAvailability : Obligations.LevelsDecideAvailability := by
  refine ⟨fun sl => ⟨?_, fun t tag => ⟨fun enough => ?_, fun short => ?_, fun m some_ within => ?_⟩⟩,
    fun sl mark => ⟨?_, ?_, ?_, sl.usable_iff⟩, fun u => ⟨Iff.rfl, ?_, fun all => ?_⟩⟩
  · rw [Slot.view, Option.map_eq_none_iff]
  · exact ⟨t - sl.pending, by rw [Slot.view, tag]; rfl, by omega⟩
  · rw [Slot.view, tag]
    exact congrArg some (show t - sl.pending = 0 by omega)
  · rw [Slot.view, Slot.view, tag]
    exact congrArg some (show t - m - (sl.pending - m) = t - sl.pending by omega)
  · rw [sl.levelNow_eq, Option.map_eq_none_iff]
  · rw [sl.levelNow_eq]
    cases sl.view with
    | none => simp
    | some v => by_cases zero : v = 0 <;> simp [zero]; split <;> simp
  · rw [sl.levelNow_eq]
    cases sl.view with
    | none => simp
    | some v =>
      by_cases zero : v = 0
      · simp [zero]
      · by_cases low : v ≤ sl.ratedYield.getD 0 * mark / 1000 <;> simp [zero, low]
        omega
  · rw [CartUnit.colourNow]
    constructor
    · intro all i
      obtain ⟨⟨⟨k, c⟩, m⟩, y⟩ := by simpa only [Bool.and_eq_true] using all
      have cases : i = 0 ∨ i = 1 ∨ i = 2 ∨ i = 3 := by omega
      rcases cases with rfl | rfl | rfl | rfl
      · exact k
      · exact c
      · exact m
      · exact y
    · intro all
      simp only [Bool.and_eq_true]
      exact ⟨⟨⟨all 0, all 1⟩, all 2⟩, all 3⟩
  · rw [CartUnit.colourNow] at all
    exact (Bool.and_eq_true_iff.mp (Bool.and_eq_true_iff.mp (Bool.and_eq_true_iff.mp all).1).1).1

end Sys2Proof.Machine
end

section
/-! PROOFS. The take of a SHEET (O23, O27). -/

namespace Sys2Proof.Machine

/-! ## What a charge draws -/

theorem drawOf_facts (c h a : Nat) :
    (drawOf c h a).hold = min c h ∧ (drawOf c h a).balance = min c (a + min c h) ∧
    (drawOf c h a).balance + (drawOf c h a).arrears = c ∧
    (c ≤ h → (drawOf c h a).arrears = 0 ∧ (drawOf c h a).balance = (drawOf c h a).hold) ∧
    (∀ balance holds, h ≤ holds → holds ≤ balance → a = balance - holds →
      holds - (drawOf c h a).hold ≤ balance - (drawOf c h a).balance) := by
  refine ⟨rfl, rfl, ?_, fun covered => ?_, fun balance holds part whole rest => ?_⟩ <;> simp only [drawOf] <;> omega

/-! ## The take at the head -/

section Take
variable {s : State} {r : SheetRecord} {rest : List QueueEntry}

theorem exec_takeSheet (outside : s.resetting = none) (taking : s.queue.taking = true)
    (head : s.queue.entries = .sheet r :: rest) : exec .takeSheet s = .next ((s.takeSheet r).endTake).finish := by
  show Host.Outcome.next (outsideReset s State.sheetTaken) = _
  rw [outsideReset_out outside, State.sheetTaken, SheetQueue.head_of_taking taking head]

/-- A posting sees nothing of a state but its slots, its transaction, its settings and its meter. -/
theorem postSheet_congr {t : State} (cart : t.cart = s.cart) (settings : t.settings = s.settings)
    (a : Option Attribution) :
    (∀ i, (t.postSheet r a).slot i = (s.postSheet r a).slot i) ∧
      (t.meters.untrackedPlaneSides = s.meters.untrackedPlaneSides →
        (t.postSheet r a).meters.untrackedPlaneSides = (s.postSheet r a).meters.untrackedPlaneSides) := by
  have slots : ∀ i, t.slot i = s.slot i := fun i => by rw [State.slot, cart]; rfl
  refine ⟨fun i => ?_, fun meter => ?_⟩
  · rw [State.slot_postSheet, State.slot_postSheet,
      State.planePosted_congr (slots i) settings (congrArg CartUnit.transaction cart)]
  · have sides : t.untrackedSides r = s.untrackedSides r := by
      rw [State.untrackedSides, State.untrackedSides, slots, slots, slots, slots]
    rw [State.meters_postSheet, State.meters_postSheet, meter, sides]

theorem sheetCharge_sides_length (s : State) (r : SheetRecord) :
    (if (s.priceSheet r).sides.length = 2 then 1 else 0) = if r.side2 = none then 0 else 1 := by
  cases sides : r.side2 with
  | none => rw [State.priceSheet, sheetCharge_simplex _ _ sides]; rfl
  | some d => rw [State.priceSheet, sheetCharge_duplex _ _ sides]; rfl

/-! ## A sheet that no job settles -/

theorem sheetJob_none (unattributed : r.tag = 0 ∨ s.job r.tag = none ∨
    ∃ j, s.job r.tag = some j ∧ (j.kind = .scan ∨ 8000000 ≤ j.sheets)) : s.sheetJob r.tag = none := by
  rw [State.sheetJob]
  rcases unattributed with zero | absent | ⟨j, present, unfit⟩
  · exact if_pos zero
  · rw [absent]; exact ite_self _
  · have refused : (j.kind != .scan && decide (j.sheets < Config.countingLimit)) = false := by
      rcases unfit with scan | full
      · rw [scan]; rfl
      · rw [decide_eq_false (Nat.not_lt.mpr (show Config.countingLimit ≤ j.sheets from full)), Bool.and_false]
    rw [present, Option.filter, refused]
    exact ite_self _

theorem takeSheet_unattributed (none_ : s.sheetJob r.tag = none) :
    s.takeSheet r = (s.settleUnattributed (s.priceSheet r)).postSheet r none := by
  rw [State.takeSheet, none_]

end Take

/-- Settles O27. -/
theorem unattributedSheetsGoToTheHouse : Obligations.UnattributedSheetsGoToTheHouse := by
  intro s r rest outside taking head unattributed c
  have takes := takeSheet_unattributed (sheetJob_none unattributed)
  have duplex := sheetCharge_sides_length s r
  have metered : ((s.settleUnattributed c).postSheet r none).meters =
      { (s.settleUnattributed c).meters with
        untrackedPlaneSides := (s.settleUnattributed c).meters.untrackedPlaneSides.add
          ((s.settleUnattributed c).untrackedSides r) } := State.meters_postSheet ..
  obtain ⟨slots, untracked⟩ := postSheet_congr (s := s) (t := s.settleUnattributed c) (r := r) rfl rfl none
  obtain ⟨cart, meters, same⟩ := (s.settleUnattributed c).postSheet_rest r none
  rw [← takes] at metered slots untracked same
  refine ⟨(s.takeSheet r).endTake, exec_takeSheet outside taking head, ?_, ?_, ?_, ?_, ?_, ?_, ?_, ?_,
    queue_endTake (by rw [same]; rfl) head, slots, untracked rfl, ?_, ?_, ?_, ?_, ?_⟩
  · show (s.takeSheet r).house = _; rw [same]; rfl
  · show (s.takeSheet r).meters.monoSides = _; rw [metered]; rfl
  · show (s.takeSheet r).meters.colourSides = _; rw [metered]; rfl
  · show (s.takeSheet r).meters.duplexSheets = _; rw [metered, ← duplex]; rfl
  · show (s.takeSheet r).meters.totalSheets = _; rw [metered]; rfl
  · show (s.takeSheet r).meters.unattributedSheets = _; rw [metered]; rfl
  · show (s.takeSheet r).meters.pointsCharged = _; rw [metered]; rfl
  · show (s.takeSheet r).meters.arrearsPoints = _; rw [metered]; rfl
  · show (s.takeSheet r).accounts = _; rw [same]; rfl
  · show (s.takeSheet r).jobs = _; rw [same]; rfl
  · show (s.takeSheet r).store = _; rw [same]; rfl
  · show (s.takeSheet r).link = _; rw [same]; rfl
  · show (s.takeSheet r).pool.mem = _; rw [same]; rfl

/-! ## A sheet settled against its job -/

/-- The first colour side on a COPY or PRINT job opened MONO. -/
def Job.surprised (j : Job) (c : ChargeResult) : Prop :=
  0 < c.sidesOf .colour ∧ (j.kind = .copy ∨ j.kind = .print) ∧ j.colourClass = .mono

/-- The job as the money and the counts leave it. -/
def Job.settledBy (j : Job) (c : ChargeResult) (available : Nat) : Job :=
  (j.drawn c.charge (drawOf c.charge j.holdRemaining available)).counted c.counts

/-- The mark of R42. -/
def Job.marked (j : Job) (c : ChargeResult) : Job :=
  if 0 < c.sidesOf .colour ∧ (j.kind = .copy ∨ j.kind = .print) ∧ j.colourClass = .mono ∧ j.colourUnexpected = false
  then { j with colourUnexpected := true } else j

/-- OPEN goes to RUNNING. -/
def Job.ran (j : Job) : Job := if j.state = .opened then { j with state := .running } else j

theorem Job.colourUnexpected_marked (j : Job) (c : ChargeResult) :
    (j.marked c).colourUnexpected = true ↔ j.colourUnexpected = true ∨ j.surprised c := by
  unfold Job.marked Job.surprised
  cases mark : j.colourUnexpected with
  | true => simp [mark]
  | false => by_cases notes : 0 < c.sidesOf .colour ∧ (j.kind = .copy ∨ j.kind = .print) ∧ j.colourClass = .mono <;> simp [notes, mark]

theorem Job.marked_eq (j : Job) (c : ChargeResult) : j.marked c = { j with colourUnexpected := (j.marked c).colourUnexpected } := by
  unfold Job.marked; split <;> rfl

theorem Job.ran_eq (j : Job) : j.ran = { j with state := if j.state = .opened then .running else j.state } := by
  unfold Job.ran; split <;> rfl

namespace State

variable {s : State} {j : Job} {a : Account} {c : ChargeResult}

theorem job_settleMoney (present : s.job j.number = some j) (charge : Nat) (k : Counts) :
    (s.settleMoney j charge k).job j.number =
      some ((j.drawn charge (drawOf charge j.holdRemaining (s.available j.owner))).counted k) := by
  have changed := s.job_changeJob j.number
    (fun j' => (j'.drawn charge (drawOf charge j.holdRemaining (s.available j.owner))).counted k) j.number
  rw [if_pos rfl, present] at changed
  exact changed

theorem account_settleMoney (s : State) (j : Job) (charge : Nat) (k : Counts) (q : Nat) :
    (s.settleMoney j charge k).account q = if q = j.owner then (s.account q).map fun a =>
      { a.drawn (drawOf charge j.holdRemaining (s.available j.owner)) with
        counters := a.counters.addAll k.mono k.colour k.pages charge } else s.account q :=
  account_changeAccount _ j.owner (fun a => { a.drawn (drawOf charge j.holdRemaining (s.available j.owner)) with
    counters := a.counters.addAll k.mono k.colour k.pages charge }) q

/-- The sheet's money and counts, its mark and its job's start: all that comes before a stop or a stage. -/
def sheetCounted (s : State) (j : Job) (c : ChargeResult) : State :=
  ((s.settleMoney j c.charge c.counts).noteColour j c).changeJob j.number Job.ran

theorem noteColour_frame (s : State) (j : Job) (c : ChargeResult) : ∃ jobs link,
    s.noteColour j c = (s.setJobs jobs).setLink link := by
  unfold noteColour
  split
  · exact ⟨_, _, rfl⟩
  · exact ⟨s.jobs, s.link, rfl⟩

theorem job_noteColour {x : Job} (listed : s.job j.number = some x)
    (same : x.kind = j.kind ∧ x.colourClass = j.colourClass ∧ x.colourUnexpected = j.colourUnexpected) :
    (s.noteColour j c).job j.number = some (x.marked c) := by
  obtain ⟨kind, class_, mark⟩ := same
  have changed := s.job_changeJob j.number (fun j => { j with colourUnexpected := true }) j.number
  rw [if_pos rfl, listed] at changed
  unfold noteColour Job.marked
  by_cases surprised : 0 < c.sidesOf .colour ∧ (j.kind = .copy ∨ j.kind = .print) ∧ j.colourClass = .mono ∧ j.colourUnexpected = false
  · rw [if_pos surprised, if_pos (by rw [kind, class_, mark]; exact surprised)]
    exact changed
  · rw [if_neg surprised, if_neg (by rw [kind, class_, mark]; exact surprised)]
    exact listed

theorem job_sheetCounted (present : s.job j.number = some j) :
    (s.sheetCounted j c).job j.number = some ((j.settledBy c (s.available j.owner)).marked c).ran := by
  have noted := job_noteColour (c := c) (job_settleMoney present c.charge c.counts) ⟨rfl, rfl, rfl⟩
  have changed := job_changeJob ((s.settleMoney j c.charge c.counts).noteColour j c) j.number Job.ran j.number
  rw [if_pos rfl, noted] at changed
  exact changed

theorem settleSheet_eq (s : State) (j : Job) (c : ChargeResult) : s.settleSheet j c =
    (((s.settleMoney j c.charge c.counts).noteColour j c).sheetState j.number).reevaluateIf (s.available j.owner) j.owner := rfl

/-- The state of the job after a settled sheet, from the counted state: it stops at the sheet limit. -/
theorem sheetState_eq (s : State) (n : Nat) : s.sheetState n =
    match (s.changeJob n Job.ran).job n with
    | none => s.changeJob n Job.ran
    | some j => if 1000000 ≤ j.sheets then (s.changeJob n Job.ran).stopJob n .sheetLimit else s.changeJob n Job.ran := by
  unfold sheetState Job.ran
  rfl

theorem sheetLimited (present : s.job j.number = some j) :
    ((s.settleMoney j c.charge c.counts).noteColour j c).sheetState j.number =
      if 1000000 ≤ j.sheets + 1 then (s.sheetCounted j c).stopJob j.number .sheetLimit else s.sheetCounted j c := by
  have listed := job_sheetCounted (c := c) present
  have sheets : ((j.settledBy c (s.available j.owner)).marked c).ran.sheets = j.sheets + 1 := by
    rw [Job.ran_eq, Job.marked_eq]; rfl
  rw [sheetState_eq]
  rw [sheetCounted] at listed ⊢
  rw [listed]
  dsimp only
  rw [sheets]

theorem stopsOnly_settleSheet (present : s.job j.number = some j) :
    (s.sheetCounted j c).StopsOnly (s.settleSheet j c) := by
  rw [settleSheet_eq, sheetLimited present]
  refine StopsOnly.trans ?_ (stopsOnly_reevaluateIf ..)
  split
  · exact stopsOnly_stopJob ..
  · exact .refl _

/-- At a million sheets an OPEN or RUNNING job stops for that. -/
theorem settleSheet_limit (present : s.job j.number = some j) (limit : 1000000 ≤ j.sheets + 1)
    (active : ((j.settledBy c (s.available j.owner)).marked c).ran.active = true) :
    (s.settleSheet j c).job j.number =
      some { ((j.settledBy c (s.available j.owner)).marked c).ran with state := .stopping, stopCause := some .sheetLimit } := by
  have stopped : ((s.sheetCounted j c).stopJob j.number .sheetLimit).job j.number =
      some { ((j.settledBy c (s.available j.owner)).marked c).ran with state := .stopping, stopCause := some .sheetLimit } := by
    rw [job_stopJob, if_pos rfl, job_sheetCounted present]
    exact congrArg some (Job.stopped_of_active active _)
  rw [settleSheet_eq, sheetLimited present, if_pos limit]
  exact (stopsOnly_reevaluateIf ..).job_of_inactive stopped rfl

theorem account_sheetCounted (s : State) (j : Job) (c : ChargeResult) (q : Nat) :
    (s.sheetCounted j c).account q = (s.settleMoney j c.charge c.counts).account q := by
  obtain ⟨jobs, link, noted⟩ := (s.settleMoney j c.charge c.counts).noteColour_frame j c
  rw [sheetCounted, noted]; rfl

theorem account_settleSheet_other (present : s.job j.number = some j) {q : Nat} (other : q ≠ j.owner) :
    (s.settleSheet j c).account q = s.account q := by
  have counted : (s.sheetCounted j c).account q = s.account q := by
    rw [account_sheetCounted, account_settleMoney, if_neg other]
  rw [settleSheet_eq, account_reevaluateIf_other other, sheetLimited present]
  split
  · rw [account, (stopJob_images _ _).accounts]; exact counted
  · exact counted

/-- What the counted state has of the fields that a stop leaves. -/
theorem sheetCounted_frame (s : State) (j : Job) (c : ChargeResult) :
    let t := s.sheetCounted j c
    t.house = s.house ∧ t.rates = s.rates ∧ t.settings = s.settings ∧ t.queue = s.queue ∧ t.cart = s.cart ∧ t.store = s.store ∧
      t.pool.mem = s.pool.mem ∧ t.meters = s.meters.addAll (c.counts.meters c.charge
        (drawOf c.charge j.holdRemaining (s.available j.owner)).arrears 0) := by
  obtain ⟨jobs, link, noted⟩ := (s.settleMoney j c.charge c.counts).noteColour_frame j c
  rw [sheetCounted, noted]
  exact ⟨rfl, rfl, rfl, rfl, rfl, rfl, rfl, rfl⟩

theorem sheetJob_some {tag : Nat} (named : tag ≠ 0) (present : s.job tag = some j) (kind : j.kind ≠ .scan)
    (few : j.sheets < 8000000) : s.sheetJob tag = some j := by
  have fit : (j.kind != .scan && decide (j.sheets < Config.countingLimit)) = true := by
    rw [decide_eq_true (show j.sheets < Config.countingLimit from few), Bool.and_true]
    simpa using kind
  rw [sheetJob, if_neg named, present, Option.filter, if_pos fit]

end State

/-- The counted job is OPEN or RUNNING when the job was. -/
theorem Job.active_counted (j : Job) (c : ChargeResult) (available : Nat) :
    (((j.settledBy c available).marked c).ran).active = true ↔ j.state = .opened ∨ j.state = .running := by
  rw [Job.active_iff, Job.ran_eq, Job.marked_eq]
  show (if j.state = .opened then JobState.running else j.state) = _ ∨ (if j.state = .opened then JobState.running else j.state) = _ ↔ _
  split
  · next opened => simp [opened]
  · rfl

/-- A settled sheet leaves the counted job, or that job stopped. -/
theorem settleSheet_job {s : State} {j : Job} {c : ChargeResult} (present : s.job j.number = some j) :
    let m := ((j.settledBy c (s.available j.owner)).marked c).ran
    ∃ k, (s.settleSheet j c).job j.number = some k ∧ k = { m with state := k.state, stopCause := k.stopCause } ∧
      (j.state = .stopping ∨ j.state = .closing → k.state = j.state ∧ k.stopCause = j.stopCause) ∧
      (j.state = .opened ∨ j.state = .running → k.state = .running ∨ k.state = .stopping) ∧
      (1000000 ≤ j.sheets + 1 → j.state = .opened ∨ j.state = .running →
        k.state = .stopping ∧ k.stopCause = some .sheetLimit) := by
  intro m
  have state : m.state = if j.state = .opened then .running else j.state := by
    show ((j.settledBy c (s.available j.owner)).marked c).ran.state = _
    rw [Job.ran_eq, Job.marked_eq]; rfl
  have cause : m.stopCause = j.stopCause := by
    show ((j.settledBy c (s.available j.owner)).marked c).ran.stopCause = _
    rw [Job.ran_eq, Job.marked_eq]; rfl
  have active : m.active = true ↔ j.state = .opened ∨ j.state = .running := Job.active_counted ..
  rcases (State.stopsOnly_settleSheet (c := c) present).job_some (State.job_sheetCounted present) with
    kept | ⟨why, stopped, listed⟩
  · refine ⟨m, kept, rfl, fun still => ⟨?_, cause⟩, fun open_ => Or.inl ?_, fun limit open_ => ?_⟩
    · rw [state, if_neg (by rcases still with h | h <;> simp [h])]
    · rw [state]
      rcases open_ with h | h <;> simp [h]
    · have told := State.settleSheet_limit (c := c) present limit (active.mpr open_)
      rw [kept] at told
      have same : m = { m with state := .stopping, stopCause := some .sheetLimit } := Option.some.inj told
      exact ⟨congrArg Job.state same, congrArg Job.stopCause same⟩
  · refine ⟨_, listed, rfl, fun still => ?_, fun _ => Or.inr rfl, fun limit open_ => ⟨rfl, ?_⟩⟩
    · rcases active.mp stopped with h | h <;> simp [h] at still
    · have told := State.settleSheet_limit (c := c) present limit (active.mpr open_)
      rw [listed] at told
      exact congrArg Job.stopCause (Option.some.inj told)

/-- What the money and the counts of a sheet do to the owner's account, whose stage alone moves after them. -/
theorem settleSheet_account {s : State} {j : Job} {a : Account} {c : ChargeResult} (present : s.job j.number = some j)
    (owned : s.account j.owner = some a) :
    ∃ x, (s.settleSheet j c).account j.owner = some x ∧
      x.unstaged = ({ a.drawn (drawOf c.charge j.holdRemaining (s.available j.owner)) with
        counters := a.counters.addAll c.counts.mono c.counts.colour c.counts.pages c.charge }).unstaged := by
  have counted := s.account_sheetCounted j c j.owner
  rw [State.account_settleMoney, if_pos rfl, owned] at counted
  exact (State.stopsOnly_settleSheet present).account_some counted

/-- What a posting leaves. -/
theorem State.CartAndMeters.frame {s t : State} (rest : s.CartAndMeters t) :
    t.queue = s.queue ∧ t.jobs = s.jobs ∧ t.accounts = s.accounts ∧ t.house = s.house ∧ t.store = s.store ∧
      t.settings = s.settings ∧ t.rates = s.rates ∧ t.pool = s.pool := by
  obtain ⟨cart, meters, rfl⟩ := rest
  exact ⟨rfl, rfl, rfl, rfl, rfl, rfl, rfl, rfl⟩

/-- Settles O23: the money and the counts come first, and what follows them (the mark, a stop, a stage, the posting) leaves them. -/
theorem sheetSettlesAgainstItsJob : Obligations.SheetSettlesAgainstItsJob := by
  refine ⟨drawOf_facts, ?_⟩
  intro s r rest j a outside order taking head tagged present kind few owned c d
  have number := State.number_of_job order present
  have listed : s.job j.number = some j := number ▸ present
  have available : s.available j.owner = a.balance - s.totalHolds j.owner := s.available_of_account owned
  have takes : s.takeSheet r = (s.settleSheet j c).postSheet r (some { job := r.tag, user := s.userNumber j.owner }) := by
    rw [State.takeSheet, State.sheetJob_some tagged present kind few, ← number]
  have only : (s.sheetCounted j c).StopsOnly (s.settleSheet j c) := State.stopsOnly_settleSheet listed
  obtain ⟨house, rates, settings, queue, cart, store, mem, meters⟩ := s.sheetCounted_frame j c
  have metered := (s.settleSheet j c).meters_postSheet r (some { job := r.tag, user := s.userNumber j.owner })
  rw [← takes, only.meters, meters, available] at metered
  obtain ⟨slots, untracked⟩ := postSheet_congr (r := r) (only.cart.trans cart) (only.settings.trans settings)
    (some { job := r.tag, user := s.userNumber j.owner })
  obtain ⟨queue', jobs', accounts', house', store', settings', rates', pool'⟩ :=
    ((s.settleSheet j c).postSheet_rest r (some { job := r.tag, user := s.userNumber j.owner })).frame
  rw [← takes] at queue' jobs' accounts' house' store' settings' rates' pool' slots untracked
  obtain ⟨k, leaves, fields, still, moves, limit⟩ := settleSheet_job (c := c) listed
  have marked := Job.colourUnexpected_marked (j.settledBy c (s.available j.owner)) c
  rw [Job.ran_eq, Job.marked_eq, Job.settledBy, available] at fields
  obtain ⟨x, owner, money⟩ := settleSheet_account (c := c) listed owned
  rw [available] at money
  obtain ⟨balance, arrears, pin, state, _, counters⟩ := Account.fields_of_unstaged money
  have duplex := sheetCharge_sides_length s r
  rw [Job.settledBy, available] at marked
  refine ⟨(s.takeSheet r).endTake, k, x, exec_takeSheet outside taking head, ?_, ?_, congrArg Job.holdRemaining fields,
    congrArg Job.pointsCharged fields, congrArg Job.pointsDrawn fields, congrArg Job.pointsArrears fields,
    congrArg Job.sheets fields, congrArg Job.monoSides fields, congrArg Job.colourSides fields, still, moves, limit, ?_,
    balance, arrears, counters, pin, state, ?_, ?_, ?_, ?_, ?_, ?_, ?_,
    queue_endTake (queue'.trans (only.queue.trans queue)) head, ⟨slots, untracked (by rw [only.meters, meters]; rfl)⟩, ?_,
    house'.trans (only.house.trans house), store'.trans (only.store.trans store),
    settings'.trans (only.settings.trans settings), rates'.trans (only.rates.trans rates),
    (congrArg Pool.mem pool').trans (only.mem.trans mem)⟩
  · rw [← number]
    exact (congrArg (fun x : JobTable => Table.find x.jobs j.number) jobs').trans leaves
  · exact (congrArg (fun x => Table.find x j.owner) accounts').trans owner
  · rw [fields]
    exact marked
  · show (s.takeSheet r).meters.monoSides = _; rw [metered]; rfl
  · show (s.takeSheet r).meters.colourSides = _; rw [metered]; rfl
  · show (s.takeSheet r).meters.duplexSheets = _; rw [metered, ← duplex]; rfl
  · show (s.takeSheet r).meters.totalSheets = _; rw [metered]; rfl
  · show (s.takeSheet r).meters.unattributedSheets = _; rw [metered]; rfl
  · show (s.takeSheet r).meters.pointsCharged = _; rw [metered]; rfl
  · show (s.takeSheet r).meters.arrearsPoints = _; rw [metered]; rfl
  · intro q other
    exact (congrArg (fun x => Table.find x q) accounts').trans (State.account_settleSheet_other listed other)

end Sys2Proof.Machine
end

section
/-! PROOFS. Cartridges: what the operations on a slot write, and what they leave. -/

namespace Sys2Proof.Machine

/-! ## Slot records alone -/

theorem Slot.rejected_rejected (sl : Slot) : sl.rejected.rejected = sl.rejected := rfl

namespace State

/-- Only slot records, level marks and the link are different. -/
def SlotsOnly (s t : State) : Prop := ∃ slots moved link,
  t = (s.setCart { s.cart with slots := slots, levelMoved := moved }).setLink link

namespace SlotsOnly

variable {s t u : State}

theorem refl (s : State) : s.SlotsOnly s := ⟨s.cart.slots, s.cart.levelMoved, s.link, rfl⟩

theorem trans (first : s.SlotsOnly t) (second : t.SlotsOnly u) : s.SlotsOnly u := by
  obtain ⟨slots, moved, link, rfl⟩ := first
  obtain ⟨slots', moved', link', rfl⟩ := second
  exact ⟨slots', moved', link', rfl⟩

theorem foldl {α : Type} {f : State → α → State} (each : ∀ (s : State) a, s.SlotsOnly (f s a)) (l : List α) (s : State) :
    s.SlotsOnly (l.foldl f s) := by
  induction l generalizing s with
  | nil => exact .refl s
  | cons a l ih => exact (each s a).trans (ih _)

section
variable (only : s.SlotsOnly t)
include only

theorem transaction : t.cart.transaction = s.cart.transaction := by obtain ⟨_, _, _, rfl⟩ := only; rfl
theorem rejectList : t.cart.rejectList = s.cart.rejectList := by obtain ⟨_, _, _, rfl⟩ := only; rfl
theorem snapshots : t.cart.snapshots = s.cart.snapshots := by obtain ⟨_, _, _, rfl⟩ := only; rfl
theorem meters : t.meters = s.meters := by obtain ⟨_, _, _, rfl⟩ := only; rfl
theorem settings : t.settings = s.settings := by obtain ⟨_, _, _, rfl⟩ := only; rfl

/-- What an operation on slot records leaves of the other units. -/
theorem units : t.accounts = s.accounts ∧ t.jobs = s.jobs ∧ t.queue = s.queue ∧ t.store = s.store ∧ t.streams = s.streams ∧
    t.pool.mem = s.pool.mem := by
  obtain ⟨_, _, _, rfl⟩ := only
  exact ⟨rfl, rfl, rfl, rfl, rfl, rfl⟩

end

end SlotsOnly

/-- The slots beside one, the lists and the meters are the same. -/
structure Beside (i : Fin 4) (s t : State) : Prop where
  others : ∀ k, k ≠ i → t.slot k = s.slot k
  rejectList : t.cart.rejectList = s.cart.rejectList
  snapshots : t.cart.snapshots = s.cart.snapshots
  meters : t.meters = s.meters

theorem Beside.trans {i : Fin 4} {s t u : State} (first : Beside i s t) (second : Beside i t u) : Beside i s u :=
  ⟨fun k other => (second.others k other).trans (first.others k other), second.rejectList.trans first.rejectList,
    second.snapshots.trans first.snapshots, second.meters.trans first.meters⟩

/-- The same, as the statements write it. -/
theorem Beside.fields {i : Fin 4} {s t : State} (same : Beside i s t) : (∀ k, k ≠ i → t.slot k = s.slot k) ∧
    t.cart.rejectList = s.cart.rejectList ∧ t.cart.snapshots = s.cart.snapshots ∧ t.meters = s.meters :=
  ⟨same.others, same.rejectList, same.snapshots, same.meters⟩

/-- One slot record alone, with level marks and the link. -/
structure OneSlot (i : Fin 4) (s t : State) : Prop where
  only : s.SlotsOnly t
  others : ∀ k, k ≠ i → t.slot k = s.slot k

namespace OneSlot

variable {s t u : State} {i : Fin 4}

theorem refl (i : Fin 4) (s : State) : OneSlot i s s := ⟨.refl s, fun _ _ => rfl⟩

theorem trans (first : OneSlot i s t) (second : OneSlot i t u) : OneSlot i s u :=
  ⟨first.only.trans second.only, fun k other => (second.others k other).trans (first.others k other)⟩

theorem beside (one : OneSlot i s t) : Beside i s t :=
  ⟨one.others, one.only.rejectList, one.only.snapshots, one.only.meters⟩

end OneSlot

variable {s : State} {i k : Fin 4}

theorem oneSlot_setSlot (s : State) (i : Fin 4) (sl : Slot) : OneSlot i s (s.setSlot i sl) :=
  ⟨⟨s.cart.slots.set i sl, s.cart.levelMoved, s.link, rfl⟩, fun _ other => slot_setSlot_other _ sl other⟩

theorem oneSlot_changeSlot (s : State) (i : Fin 4) (f : Slot → Slot) : OneSlot i s (s.changeSlot i f) := oneSlot_setSlot ..

@[simp] theorem slot_changeSlot_same (s : State) (i : Fin 4) (f : Slot → Slot) : (s.changeSlot i f).slot i = f (s.slot i) :=
  slot_setSlot_same ..

@[simp] theorem slot_tellCart (s : State) (i : Fin 4) (n : CartNews) (k : Fin 4) : (s.tellCart i n).slot k = s.slot k := by
  rw [slot, cart_tellCart]; rfl

@[simp] theorem slot_tellCarts (s : State) (l : List (Fin 4 × CartNews)) (k : Fin 4) : (s.tellCarts l).slot k = s.slot k := by
  rw [slot, cart_tellCarts]; rfl

theorem slotsOnly_tellCart (s : State) (i : Fin 4) (n : CartNews) : s.SlotsOnly (s.tellCart i n) := by
  unfold tellCart
  split
  · exact .refl s
  · exact ⟨s.cart.slots, s.cart.levelMoved, _, rfl⟩

theorem slotsOnly_tellCarts (s : State) (l : List (Fin 4 × CartNews)) : s.SlotsOnly (s.tellCarts l) := by
  unfold tellCarts
  exact SlotsOnly.foldl (fun s x => s.slotsOnly_tellCart x.1 x.2) l s

theorem oneSlot_tellCart (s : State) (i : Fin 4) (n : CartNews) : OneSlot i s (s.tellCart i n) :=
  ⟨slotsOnly_tellCart .., fun _ _ => slot_tellCart ..⟩

theorem oneSlot_noteLevel (s : State) (i : Fin 4) : OneSlot i s (s.noteLevel i) := by
  refine ⟨?_, fun _ _ => slot_noteLevel ..⟩
  unfold noteLevel
  split
  · exact .refl s
  · exact ⟨s.cart.slots, s.cart.levelMoved.set i true, s.link, rfl⟩

/-! ## A DEBIT asked for -/

/-- Whether the end of a DEBIT, or the settling of one, asks for another (R111, R112). -/
def debitDue (s : State) (i : Fin 4) : Prop := 4096 ≤ s.cart.uncovered i ∨ ((s.slot i).flush = none ∧ 0 < s.cart.uncovered i)

theorem oneSlot_debitIfDue (s : State) (i : Fin 4) : OneSlot i s (s.debitIfDue i) := by
  unfold debitIfDue
  split
  · exact oneSlot_changeSlot ..
  · exact .refl i s

theorem uncovered_eq (idle : s.cart.transaction = none) (i : Fin 4) :
    s.cart.uncovered i = (s.slot i).pending - (s.slot i).unconfirmed.getD 0 := by
  have none_ : s.cart.inFlight i = 0 := by rw [CartUnit.inFlight, idle]
  rw [CartUnit.uncovered, none_, Nat.sub_zero]; rfl

/-- The slot after the DEBIT that may be asked for, when no transaction is in progress. -/
theorem slot_debitIfDue (idle : s.cart.transaction = none) :
    (s.debitIfDue i).slot i = { s.slot i with requests :=
      if 4096 ≤ (s.slot i).pending - (s.slot i).unconfirmed.getD 0 ∨
        ((s.slot i).flush = none ∧ 0 < (s.slot i).pending - (s.slot i).unconfirmed.getD 0)
      then { (s.slot i).requests with debit := true } else (s.slot i).requests } := by
  unfold debitIfDue
  rw [uncovered_eq idle]
  by_cases due : 4096 ≤ (s.slot i).pending - (s.slot i).unconfirmed.getD 0 ∨
      ((s.slot i).flush = none ∧ 0 < (s.slot i).pending - (s.slot i).unconfirmed.getD 0)
  · rw [if_pos due, if_pos (show Config.writeQuantum ≤ _ ∨ _ from due), slot_changeSlot_same]; rfl
  · rw [if_neg due, if_neg (show ¬ (Config.writeQuantum ≤ _ ∨ _) from due)]

/-! ## The fail count path (R103) -/

theorem slotsOnly_rejectEach (s : State) (l : List (Fin 4)) :
    s.SlotsOnly (l.foldl (fun t j => t.changeSlot j Slot.rejected) s) :=
  SlotsOnly.foldl (fun s j => (s.oneSlot_changeSlot j Slot.rejected).only) l s

theorem slot_rejectEach (s : State) (l : List (Fin 4)) (k : Fin 4) :
    (l.foldl (fun t j => t.changeSlot j Slot.rejected) s).slot k = if k ∈ l then (s.slot k).rejected else s.slot k := by
  induction l generalizing s with
  | nil => rfl
  | cons j l ih =>
    rw [List.foldl_cons, ih]
    by_cases same : k = j
    · subst same
      simp [Slot.rejected_rejected]
    · rw [(s.oneSlot_changeSlot j Slot.rejected).others k same]
      simp [same]

theorem mem_twins {serial : Serial} :
    k ∈ s.twins i serial ↔ k ≠ i ∧ (s.slot k).serial = some serial ∧ (s.slot k).state.keeps = true := by
  simp [twins, mem_fourIndices, and_assoc]

/-- What the fail count path does: the snapshot, the list and the meter, and every slot of the serial REJECTED. -/
structure RejectedFor (i : Fin 4) (serial : Serial) (s t : State) : Prop where
  own : t.slot i = (s.slot i).rejected
  twins : ∀ k, k ≠ i → (s.slot k).serial = some serial → (s.slot k).state ≠ .empty → (t.slot k).state = .rejected
  others : ∀ k, k ≠ i → (s.slot k).serial ≠ some serial → t.slot k = s.slot k
  snapshots : t.cart.snapshots = keepSnapshot s.cart.snapshots (s.snapshot i serial)
  rejectList : t.cart.rejectList = joinRejectList s.cart.rejectList serial
  meters : t.meters = s.meters.addAll { cartridgesRejected := 1 }
  transaction : t.cart.transaction = s.cart.transaction
  units : t.accounts = s.accounts ∧ t.jobs = s.jobs ∧ t.queue = s.queue ∧ t.store = s.store ∧ t.streams = s.streams ∧
    t.pool.mem = s.pool.mem

theorem rejectByFails_rejects {serial : Serial} (held : (s.slot i).serial = some serial) (n : CartNews) :
    RejectedFor i serial s (s.rejectByFails i n) := by
  let listed : State := (s.setCart { s.cart with
    snapshots := keepSnapshot s.cart.snapshots (s.snapshot i serial)
    rejectList := joinRejectList s.cart.rejectList serial }).addMeters { cartridgesRejected := 1 }
  have parts : s.rejectByFails i n = (((i :: s.twins i serial).foldl (fun t j => t.changeSlot j Slot.rejected) listed).tellCarts
      (s.rejectNews i serial n)) := by rw [rejectByFails, held]; rfl
  have only : listed.SlotsOnly (s.rejectByFails i n) := by
    rw [parts]; exact (slotsOnly_rejectEach ..).trans (slotsOnly_tellCarts ..)
  have slots : ∀ k, (s.rejectByFails i n).slot k = if k ∈ i :: s.twins i serial then (s.slot k).rejected else s.slot k := by
    intro k
    rw [parts, slot_tellCarts]
    exact slot_rejectEach ..
  exact {
    own := by rw [slots, if_pos List.mem_cons_self]
    twins := fun k other same_ present => by
      rw [slots]
      split
      · rfl
      · next out =>
        have unkept : ¬ (s.slot k).state.keeps = true := fun kept =>
          out (List.mem_cons_of_mem _ (mem_twins.mpr ⟨other, same_, kept⟩))
        rcases (SlotState.keeps_eq_false_iff _).mp (Bool.eq_false_iff.mpr unkept) with empty | rejected
        · exact absurd empty present
        · exact rejected
    others := fun k other differs => by
      rw [slots, if_neg]
      intro mem
      rcases List.mem_cons.mp mem with same_ | twin
      · exact other same_
      · exact differs (mem_twins.mp twin).2.1
    snapshots := only.snapshots
    rejectList := only.rejectList
    meters := only.meters
    transaction := only.transaction
    units := only.units }

/-! ## A failed challenge (R97) -/

theorem failChallenge_short (short : (s.slot i).failsAfter < s.settings.failLimit) (n : CartNews) (cause : CartCause) :
    OneSlot i s (s.failChallenge i n cause) ∧
      (s.failChallenge i n cause).slot i = ((s.slot i).withFails (s.slot i).failsAfter).enterSuspect := by
  have parts : s.failChallenge i n cause = ((s.setSlot i ((s.slot i).withFails (s.slot i).failsAfter)).changeSlot i
      Slot.enterSuspect).tellCart i { n with cause := some cause } :=
    if_neg (show ¬ s.settings.failLimit ≤ (s.slot i).failsAfter by omega)
  rw [parts]
  refine ⟨((oneSlot_setSlot ..).trans (oneSlot_changeSlot ..)).trans (oneSlot_tellCart ..), ?_⟩
  rw [slot_tellCart, slot_changeSlot_same, slot_setSlot_same]

theorem failChallenge_limit {serial : Serial} (limit : s.settings.failLimit ≤ (s.slot i).failsAfter)
    (held : (s.slot i).serial = some serial) (n : CartNews) (cause : CartCause) :
    RejectedFor i serial (s.setSlot i ((s.slot i).withFails (s.slot i).failsAfter)) (s.failChallenge i n cause) := by
  have parts : s.failChallenge i n cause = (s.setSlot i ((s.slot i).withFails (s.slot i).failsAfter)).rejectByFails i n :=
    if_pos (show s.settings.failLimit ≤ (s.slot i).failsAfter from limit)
  rw [parts]
  exact rejectByFails_rejects (by rw [slot_setSlot_same]; exact held) n

/-- A rejection, as a state sees it whose other slots, lists and meters were the same before it. -/
theorem RejectedFor.after {t u : State} {serial : Serial} (rejected : RejectedFor i serial t u) (same : Beside i s t) :
    u.slot i = (t.slot i).rejected ∧
      u.cart.snapshots = keepSnapshot s.cart.snapshots (t.snapshot i serial) ∧
      u.cart.rejectList = joinRejectList s.cart.rejectList serial ∧
      u.meters = s.meters.addAll { cartridgesRejected := 1 } ∧
      (∀ k, k ≠ i → (s.slot k).serial = some serial → (s.slot k).state ≠ .empty → (u.slot k).state = .rejected) ∧
      (∀ k, k ≠ i → (s.slot k).serial ≠ some serial → u.slot k = s.slot k) := by
  refine ⟨rejected.own, ?_, ?_, ?_, fun k other => ?_, fun k other => ?_⟩
  · rw [rejected.snapshots, same.snapshots]
  · rw [rejected.rejectList, same.rejectList]
  · rw [rejected.meters, same.meters]
  · rw [← same.others k other]; exact rejected.twins k other
  · rw [← same.others k other]; exact rejected.others k other

/-- What every answer leaves: the line as it is, and the other units. -/
structure Framed (t s : State) : Prop where
  transaction : t.cart.transaction = s.cart.transaction
  units : t.accounts = s.accounts ∧ t.jobs = s.jobs ∧ t.queue = s.queue ∧ t.store = s.store ∧ t.streams = s.streams ∧
    t.pool.mem = s.pool.mem

theorem Framed.refl (s : State) : s.Framed s := ⟨rfl, rfl, rfl, rfl, rfl, rfl, rfl⟩

theorem Framed.trans {t u : State} (first : t.Framed s) (second : u.Framed t) : u.Framed s := by
  obtain ⟨transaction, accounts, jobs, queue, store, streams, mem⟩ := first
  obtain ⟨transaction', accounts', jobs', queue', store', streams', mem'⟩ := second
  exact ⟨transaction'.trans transaction, accounts'.trans accounts, jobs'.trans jobs, queue'.trans queue,
    store'.trans store, streams'.trans streams, mem'.trans mem⟩

theorem OneSlot.frame {t : State} (one : OneSlot i s t) : t.Framed s := ⟨one.only.transaction, one.only.units⟩

theorem RejectedFor.frame {t u : State} {serial : Serial} (rejected : RejectedFor i serial t u) (one : OneSlot i s t) :
    u.Framed s := one.frame.trans ⟨rejected.transaction, rejected.units⟩

end State

/-! ## The bytes of an answer -/

theorem answerFields_lineMessage (fields : List Byte) : answerFields fields.length (lineMessage fields) = some fields := by
  have check : (checkBytes (crc fields)).length = 2 := length_be ..
  rw [answerFields, lineMessage, List.take_left, List.drop_left, if_pos ⟨by rw [List.length_append, check], rfl⟩]

theorem identityOf_bytes (serial : Serial) {yield remaining : Nat} (fits : yield < 4294967296) (fits' : remaining < 4294967296) :
    identityOf (wordBytes serial ++ be 4 yield ++ be 4 remaining) = ⟨serial, yield, remaining⟩ := by
  have eight : (wordBytes serial).length = 8 := length_be 8 serial.toNat
  have twelve : (wordBytes serial ++ be 4 yield).length = 12 := by rw [List.length_append, eight, length_be]
  have front : (wordBytes serial ++ be 4 yield ++ be 4 remaining).take 8 = wordBytes serial := by
    rw [List.append_assoc, List.take_left' eight]
  have middle : ((wordBytes serial ++ be 4 yield ++ be 4 remaining).drop 8).take 4 = be 4 yield := by
    rw [List.append_assoc, List.drop_left' eight, List.take_left' (length_be 4 yield)]
  have back : (wordBytes serial ++ be 4 yield ++ be 4 remaining).drop 12 = be 4 remaining := List.drop_left' twelve
  rw [identityOf, front, middle, back, num_wordBytes, num_be_of_lt fits, num_be_of_lt fits', BitVec.ofNat_toNat,
    BitVec.setWidth_eq]

theorem length_identity (serial : Serial) (yield remaining : Nat) :
    (wordBytes serial ++ be 4 yield ++ be 4 remaining).length = 16 := by
  have eight : (wordBytes serial).length = 8 := length_be 8 serial.toNat
  simp [eight]

/-! ## The end of a transaction -/

namespace State

variable {s : State} {t : Transaction}

/-- The line is free. -/
def lineFree (s : State) : State := s.setCart { s.cart with transaction := none }

/-- The line is free after a good answer of a slot. -/
def answered (s : State) (i : Fin 4) : State := s.lineFree.changeSlot i fun sl => { sl with unanswered := 0 }

theorem slot_answered (s : State) (i : Fin 4) : (s.answered i).slot i = { s.slot i with unanswered := 0 } := slot_changeSlot_same ..

theorem beside_answered (s : State) (i : Fin 4) : Beside i s (s.answered i) :=
  ⟨(s.lineFree.oneSlot_changeSlot i fun sl => { sl with unanswered := 0 }).others, rfl, rfl, rfl⟩

theorem tagAnswer_good (busy : s.cart.transaction = some t) (kept : (s.slot t.slot).state.keeps = true) {fields : List Byte}
    (count : t.work.answerBytes = fields.length) :
    s.tagAnswer (lineMessage fields) = match t.work with
      | .identify => (s.answered t.slot).identifyTaken t.slot (identityOf fields)
      | .challenge _ expected => (s.answered t.slot).challengeTaken t.slot expected fields
      | .debit amount => (s.answered t.slot).debitTaken t.slot amount (num fields) := by
  rw [tagAnswer, endTransaction, busy]
  dsimp only
  rw [show ((s.setCart { s.cart with transaction := none }).slot t.slot).state.keeps = true from kept, if_pos rfl, count,
    answerFields_lineMessage]
  rfl

end State

/-! ## The answers as commands -/

section
variable {s : State} (outside : s.resetting = none) (answer : List Byte)
include outside

theorem exec_identifyAnswer : exec (.cartIdentifyAnswer answer) s = .next (s.tagAnswer answer).finish := by
  show Host.Outcome.next (outsideReset s fun s => s.tagAnswer answer) = _
  rw [outsideReset_out outside]

theorem exec_challengeAnswer : exec (.cartChallengeAnswer answer) s = .next (s.tagAnswer answer).finish := by
  show Host.Outcome.next (outsideReset s fun s => s.tagAnswer answer) = _
  rw [outsideReset_out outside]

theorem exec_debitAnswer : exec (.cartDebitAnswer answer) s = .next (s.tagAnswer answer).finish := by
  show Host.Outcome.next (outsideReset s fun s => s.tagAnswer answer) = _
  rw [outsideReset_out outside]

theorem exec_badAnswer : exec (.cartBadAnswer answer) s = .next (s.tagAnswer answer).finish := by
  show Host.Outcome.next (outsideReset s fun s => s.tagAnswer answer) = _
  rw [outsideReset_out outside]

end

theorem exec_answerTimeout {s : State} (outside : s.resetting = none) :
    exec .cartAnswerTimeout s = .next s.answerTimeout.finish := by
  show Host.Outcome.next (outsideReset s State.answerTimeout) = _
  rw [outsideReset_out outside]

end Sys2Proof.Machine
end

section
/-! PROOFS. Answers on the cartridge line: CHALLENGE (O31) and IDENTIFY of a slot in IDENTIFYING (O30). -/

namespace Sys2Proof.Machine

/-! ## CHALLENGE -/

theorem num_response (response : BitVec 64) : BitVec.ofNat 64 (num (wordBytes response)) = response := by
  rw [num_wordBytes, BitVec.ofNat_toNat, BitVec.setWidth_eq]

/-- IDENTIFYING, GENUINE and SUSPECT. -/
def SlotState.challengeable (st : SlotState) : Prop := st = .identifying ∨ st = .genuine ∨ st = .suspect

theorem SlotState.challengeable.keeps {st : SlotState} (state : st.challengeable) : st.keeps = true := by
  rcases state with h | h | h <;> rw [h] <;> rfl

namespace State

variable {s : State} {i : Fin 4}

theorem passChallenge_genuine (genuine : (s.slot i).state = .genuine) : s.passChallenge i = s := by
  unfold passChallenge
  dsimp only
  rw [genuine]

theorem passChallenge_moves (state : (s.slot i).state.challengeable) (moves : (s.slot i).state ≠ .genuine) :
    OneSlot i s (s.passChallenge i) ∧ (s.passChallenge i).slot i = (s.slot i).passed := by
  have parts : s.passChallenge i = (s.setSlot i (s.slot i).passed).tellCart i { before := (s.slot i).state, cause := some .pass } := by
    unfold passChallenge
    dsimp only
    rcases state with h | h | h
    · rw [h]
    · exact absurd h moves
    · rw [h]
  rw [parts, slot_tellCart, slot_setSlot_same]
  exact ⟨(oneSlot_setSlot ..).trans (oneSlot_tellCart ..), rfl⟩

theorem challengeTaken_pass (response : BitVec 64) : s.challengeTaken i response (wordBytes response) = s.passChallenge i := by
  rw [challengeTaken, num_response, if_pos rfl]

theorem challengeTaken_fail {expected response : BitVec 64} (wrong : response ≠ expected) (state : (s.slot i).state.challengeable) :
    s.challengeTaken i expected (wordBytes response) = s.failChallenge i { before := (s.slot i).state } .fail := by
  rw [challengeTaken, num_response, if_neg wrong]
  rcases state with h | h | h <;> rw [h]

theorem enterSuspect_eq (sl : Slot) : sl.enterSuspect =
    { sl with state := .suspect, recheck := if sl.state = .suspect then sl.recheck else some 0 } := by
  unfold Slot.enterSuspect
  split
  · next suspect => rw [← suspect]
  · rfl

end State

/-- The ways a CHALLENGE answer is taken, on the slot as it stands without its unanswered count. -/
theorem State.challengeTaken_cases {s : State} {i : Fin 4} {expected response : BitVec 64} {serial : Serial}
    (state : (s.slot i).state.challengeable) (held : (s.slot i).serial = some serial) :
    let u := s.challengeTaken i expected (wordBytes response)
    (response = expected → (s.slot i).state = .genuine → u = s) ∧
    (response = expected → (s.slot i).state ≠ .genuine → OneSlot i s u ∧ u.slot i = (s.slot i).passed) ∧
    (response ≠ expected → (s.slot i).failsAfter < s.settings.failLimit →
      OneSlot i s u ∧ u.slot i = ((s.slot i).withFails (s.slot i).failsAfter).enterSuspect) ∧
    (response ≠ expected → s.settings.failLimit ≤ (s.slot i).failsAfter →
      RejectedFor i serial (s.setSlot i ((s.slot i).withFails (s.slot i).failsAfter)) u) := by
  refine ⟨?_, ?_, fun wrong short => ?_, fun wrong limit => ?_⟩
  · rintro rfl genuine
    rw [State.challengeTaken_pass, State.passChallenge_genuine genuine]
  · rintro rfl moves
    rw [State.challengeTaken_pass]
    exact State.passChallenge_moves state moves
  · rw [State.challengeTaken_fail wrong state]
    exact State.failChallenge_short short ..
  · rw [State.challengeTaken_fail wrong state]
    exact State.failChallenge_limit limit held ..

/-- Settles O31. -/
theorem challengesMoveTheFailCount : Obligations.ChallengesMoveTheFailCount := by
  intro s t bytes expected response serial outside busy work state held sl failed
  have state' : (s.slot t.slot).state.challengeable := state
  let a := s.answered t.slot
  have own : a.slot t.slot = { sl with unanswered := 0 } := s.slot_answered t.slot
  have takes : s.tagAnswer (lineMessage (wordBytes response)) = a.challengeTaken t.slot expected (wordBytes response) := by
    rw [State.tagAnswer_good busy state'.keeps (by rw [work]; exact (length_be 8 response.toNat).symm), work]
  have beside : State.Beside t.slot s a := s.beside_answered t.slot
  obtain ⟨stays, moves, fails, rejects⟩ := State.challengeTaken_cases (s := a) (expected := expected) (response := response)
    (by rw [own]; exact state') (by rw [own]; exact held)
  rw [own] at stays moves fails rejects
  have frame : (a.challengeTaken t.slot expected (wordBytes response)).Framed a := by
    by_cases right : response = expected
    · by_cases genuine : sl.state = .genuine
      · rw [stays right genuine]; exact .refl a
      · exact (moves right genuine).1.frame
    · by_cases short : failed < s.settings.failLimit
      · exact (fails right short).1.frame
      · exact (rejects right (Nat.not_lt.mp short)).frame (State.oneSlot_setSlot ..)
  refine ⟨_, exec_challengeAnswer outside _, ?_⟩
  rw [takes]
  refine ⟨frame.transaction, fun right genuine => ?_, fun right trusted low => ?_, fun right trusted high => ?_,
    fun wrong short => ?_, fun kept => ?_, fun wrong limit => ?_, frame.units⟩
  · rw [stays right genuine]
    exact ⟨own, rfl⟩
  · rw [(moves right trusted).2, Slot.passed, if_pos (show _ ≤ 1 from low)]
    rfl
  · rw [(moves right trusted).2, Slot.passed, if_neg (by show ¬ sl.fails ≤ 1; omega), State.enterSuspect_eq]
    rfl
  · rw [(fails wrong short).2, State.enterSuspect_eq]
    rfl
  · by_cases right : response = expected
    · by_cases genuine : sl.state = .genuine
      · rw [stays right genuine]; exact beside.fields
      · exact (beside.trans (moves right genuine).1.beside).fields
    · exact (beside.trans (fails right (kept.resolve_left right)).1.beside).fields
  · obtain ⟨final, _, list, meters, twins, rest⟩ := (rejects wrong limit).after (beside.trans (State.oneSlot_setSlot ..).beside)
    refine ⟨?_, list, meters, twins, rest⟩
    rw [final, State.slot_setSlot_same]
    rfl

/-! ## IDENTIFY of a slot in IDENTIFYING -/

namespace State

variable {s : State} {i : Fin 4} {x : Identity}

theorem identifyNew_listed (listed : x.serial ∈ s.cart.rejectList) (n : CartNews) :
    OneSlot i s (s.identifyNew i x n) ∧ (s.identifyNew i x n).slot i = (s.slot i).rejected := by
  have parts : s.identifyNew i x n = s.rejectListed i n := if_pos (by simpa using listed)
  rw [parts, rejectListed, slot_tellCart, slot_setSlot_same]
  exact ⟨(oneSlot_setSlot ..).trans (oneSlot_tellCart ..), rfl⟩

/-- The state as step 2 of R94 has recorded the answer. -/
def recorded (s : State) (i : Fin 4) (x : Identity) : State := (s.setSlot i ((s.slot i).identified x)).noteLevel i

theorem oneSlot_recorded (s : State) (i : Fin 4) (x : Identity) : OneSlot i s (s.recorded i x) :=
  (oneSlot_setSlot ..).trans (oneSlot_noteLevel ..)

theorem slot_recorded (s : State) (i : Fin 4) (x : Identity) : (s.recorded i x).slot i = (s.slot i).identified x := by
  rw [recorded, slot_noteLevel, slot_setSlot_same]

theorem identifyNew_unlisted (unlisted : x.serial ∉ s.cart.rejectList) (n : CartNews) : ∃ n',
    s.identifyNew i x n = (s.recorded i x).afterRecord i x n' :=
  ⟨_, if_neg (by simpa using unlisted)⟩

/-- Steps 3 and 4 of R94, for a slot that is not GENUINE. -/
theorem afterRecord_cases {serial : Serial} (held : (s.slot i).serial = some serial) (state : (s.slot i).state ≠ .genuine)
    (n : CartNews) :
    let u := s.afterRecord i x n
    ((s.slot i).fails < s.settings.failLimit → 1 ≤ x.ratedYield → x.remaining ≤ x.ratedYield →
      OneSlot i s u ∧ u.slot i = (s.slot i).askChallenge) ∧
    (s.settings.failLimit ≤ (s.slot i).fails → RejectedFor i serial s u) ∧
    ((s.slot i).fails < s.settings.failLimit → x.ratedYield = 0 ∨ x.ratedYield < x.remaining →
      ((s.slot i).fails + 1 < s.settings.failLimit →
        OneSlot i s u ∧ u.slot i = ((s.slot i).withFails ((s.slot i).fails + 1)).enterSuspect) ∧
      (s.settings.failLimit ≤ (s.slot i).fails + 1 →
        RejectedFor i serial (s.setSlot i ((s.slot i).withFails ((s.slot i).fails + 1))) u)) := by
  have counted : (s.slot i).failsAfter = (s.slot i).fails + 1 := if_neg state
  refine ⟨fun low some_ within => ?_, fun limit => ?_, fun low bad => ?_⟩
  · rw [afterRecord, if_neg (by omega), if_neg (by omega), slot_tellCart, slot_changeSlot_same]
    exact ⟨(oneSlot_changeSlot ..).trans (oneSlot_tellCart ..), rfl⟩
  · rw [afterRecord, if_pos limit]
    exact rejectByFails_rejects held n
  · rw [afterRecord, if_neg (by omega), if_pos bad, ← counted]
    exact ⟨fun short => failChallenge_short short .., fun limit => failChallenge_limit limit held ..⟩

theorem framed_afterRecord {serial : Serial} (held : (s.slot i).serial = some serial) (state : (s.slot i).state ≠ .genuine)
    (n : CartNews) : (s.afterRecord i x n).Framed s := by
  obtain ⟨good, limit, bad⟩ := s.afterRecord_cases (x := x) held state n
  by_cases low : (s.slot i).fails < s.settings.failLimit
  · by_cases wrong : x.ratedYield = 0 ∨ x.ratedYield < x.remaining
    · by_cases short : (s.slot i).fails + 1 < s.settings.failLimit
      · exact ((bad low wrong).1 short).1.frame
      · exact ((bad low wrong).2 (Nat.not_lt.mp short)).frame (oneSlot_setSlot ..)
    · exact (good low (by omega) (by omega)).1.frame
  · exact (limit (Nat.not_lt.mp low)).frame (.refl i s)

end State

/-- Settles O30. -/
theorem identifyRecordsTheCartridge : Obligations.IdentifyRecordsTheCartridge := by
  intro s t serial yield remaining outside busy work state fits fits' answer fails
  let a := s.answered t.slot
  let x : Identity := ⟨serial, yield, remaining⟩
  have own : a.slot t.slot = { s.slot t.slot with unanswered := 0 } := s.slot_answered t.slot
  have beside : State.Beside t.slot s a := s.beside_answered t.slot
  have takes : s.tagAnswer answer = a.identifyNew t.slot x { before := .identifying } := by
    show s.tagAnswer (lineMessage _) = _
    rw [State.tagAnswer_good busy (by rw [state]; rfl) (by rw [work, length_identity]; rfl), work]
    dsimp only
    rw [identityOf_bytes serial fits fits', State.identifyTaken, own]
    dsimp only
    rw [state]
  have record : (a.recorded t.slot x).slot t.slot = { s.slot t.slot with
      serial := some serial, ratedYield := some yield, tagRemaining := some remaining, fails := fails, unanswered := 0,
      retainedSerial := some serial, retainedFails := fails } := by
    rw [State.slot_recorded, own]; rfl
  have recorded : State.OneSlot t.slot a (a.recorded t.slot x) := State.oneSlot_recorded ..
  refine ⟨_, exec_identifyAnswer outside _, ?_⟩
  rw [takes]
  by_cases listed : serial ∈ s.cart.rejectList
  · obtain ⟨one, final⟩ := State.identifyNew_listed (s := a) (i := t.slot) (x := x) listed { before := .identifying }
    rw [own] at final
    obtain ⟨_, lists⟩ := (beside.trans one.beside).fields
    exact ⟨one.frame.transaction, fun _ => by rw [final]; exact ⟨rfl, rfl, rfl, lists⟩, absurd listed, absurd listed,
      absurd listed, one.frame.units⟩
  · obtain ⟨n, parts⟩ := State.identifyNew_unlisted (s := a) (i := t.slot) (x := x) listed { before := .identifying }
    rw [parts]
    have held : ((a.recorded t.slot x).slot t.slot).serial = some serial := by rw [record]
    have untrusted : ((a.recorded t.slot x).slot t.slot).state ≠ .genuine := by rw [record, state]; decide
    obtain ⟨good, limit, bad⟩ := State.afterRecord_cases (x := x) held untrusted n
    rw [record] at good limit bad
    rw [recorded.only.settings] at good limit bad
    have frame : ((a.recorded t.slot x).afterRecord t.slot x n).Framed a :=
      recorded.frame.trans (State.framed_afterRecord held untrusted n)
    have before := beside.trans recorded.beside
    refine ⟨frame.transaction, fun h => absurd h listed, fun _ low some_ within => ?_, fun _ high => ?_,
      fun _ low wrong => ⟨fun short => ?_, fun high => ?_⟩, frame.units⟩
    · obtain ⟨one, final⟩ := good low some_ within
      exact ⟨final, (before.trans one.beside).fields⟩
    · obtain ⟨final, _, list, meters, _, _⟩ := (limit high).after before
      rw [record] at final
      rw [final]
      exact ⟨rfl, rfl, list, meters⟩
    · obtain ⟨one, final⟩ := (bad low wrong).1 short
      refine ⟨?_, (before.trans one.beside).fields⟩
      rw [final, State.enterSuspect_eq, if_neg (by show (s.slot t.slot).state ≠ _; rw [state]; decide)]
      rfl
    · obtain ⟨final, _, list, meters, _, _⟩ := ((bad low wrong).2 high).after (before.trans (State.oneSlot_setSlot ..).beside)
      rw [State.slot_setSlot_same] at final
      rw [final]
      exact ⟨rfl, rfl, rfl, list, meters⟩

end Sys2Proof.Machine
end

section
/-! PROOFS. Answers on the cartridge line: DEBIT, and IDENTIFY of a slot with its serial (O32). -/

namespace Sys2Proof.Machine

namespace State

variable {s : State} {i : Fin 4}

theorem link_debitIfDue (s : State) (i : Fin 4) : (s.debitIfDue i).link = s.link := by
  unfold debitIfDue; split <;> rfl

theorem snapshot_eq (s : State) (i : Fin 4) (serial : Serial) : s.snapshot i serial =
    { slot := i, serial := serial, fails := (s.slot i).fails, failLimit := s.settings.failLimit,
      sinceInsertion := (s.slot i).sinceInsertion, view := (s.slot i).view.getD 0, totalSheets := s.meters.totalSheets,
      attribution := (s.slot i).attribution } := rfl

theorem framed_rejectByFails (s : State) (i : Fin 4) (n : CartNews) : (s.rejectByFails i n).Framed s := by
  cases held : (s.slot i).serial with
  | none => rw [rejectByFails, held]; exact .refl s
  | some serial => exact (rejectByFails_rejects held n).frame (.refl i s)

theorem framed_failChallenge (s : State) (i : Fin 4) (n : CartNews) (cause : CartCause) : (s.failChallenge i n cause).Framed s := by
  by_cases short : (s.slot i).failsAfter < s.settings.failLimit
  · exact (failChallenge_short short n cause).1.frame
  · have parts : s.failChallenge i n cause = (s.setSlot i ((s.slot i).withFails (s.slot i).failsAfter)).rejectByFails i n :=
      if_pos (show s.settings.failLimit ≤ (s.slot i).failsAfter by omega)
    rw [parts]
    exact (s.oneSlot_setSlot i _).frame.trans (framed_rejectByFails ..)

/-- A failed challenge short of the limit, in the words of the statements. -/
theorem failChallenge_suspect {t : State} (same : Beside i t s) (short : (s.slot i).failsAfter < s.settings.failLimit)
    (n : CartNews) (cause : CartCause) :
    (s.failChallenge i n cause).slot i = { s.slot i with
        state := .suspect, fails := (s.slot i).failsAfter, retainedFails := (s.slot i).failsAfter,
        recheck := if (s.slot i).state = .suspect then (s.slot i).recheck else some 0 } ∧
      Beside i t (s.failChallenge i n cause) := by
  obtain ⟨one, final⟩ := s.failChallenge_short short n cause
  refine ⟨?_, same.trans one.beside⟩
  rw [final, enterSuspect_eq]
  rfl

/-- A failed challenge at the limit, in the words of the statements. -/
theorem failChallenge_rejected {t : State} {serial : Serial} (same : Beside i t s)
    (limit : s.settings.failLimit ≤ (s.slot i).failsAfter) (held : (s.slot i).serial = some serial) (n : CartNews)
    (cause : CartCause) :
    let sl := s.slot i
    let u := s.failChallenge i n cause
    u.slot i = { sl with
      state := .rejected, fails := sl.failsAfter, retainedFails := sl.failsAfter, pending := 0, unconfirmed := none,
      remembered := none, requests := {}, recheck := none, flush := none } ∧
    u.cart.snapshots = keepSnapshot t.cart.snapshots
      { slot := i, serial := serial, fails := sl.failsAfter, failLimit := s.settings.failLimit,
        sinceInsertion := sl.sinceInsertion, view := sl.view.getD 0, totalSheets := t.meters.totalSheets,
        attribution := sl.attribution } ∧
    u.cart.rejectList = joinRejectList t.cart.rejectList serial ∧
    u.meters = t.meters.addAll { cartridgesRejected := 1 } ∧
    (∀ k, k ≠ i → (t.slot k).serial = some serial → (t.slot k).state ≠ .empty → (u.slot k).state = .rejected) ∧
    (∀ k, k ≠ i → (t.slot k).serial ≠ some serial → u.slot k = t.slot k) := by
  intro sl u
  obtain ⟨final, shot, list, meters, twins, rest⟩ :=
    (s.failChallenge_limit limit held n cause).after (same.trans (oneSlot_setSlot ..).beside)
  refine ⟨?_, ?_, list, meters, twins, rest⟩
  · rw [final, slot_setSlot_same]
    rfl
  · rw [shot, snapshot_eq, slot_setSlot_same]
    show keepSnapshot _ { totalSheets := s.meters.totalSheets, .. } = _
    rw [same.meters]
    rfl

/-! ## DEBIT -/

/-- A DEBIT answer of another value than expected, before it fails as a challenge. -/
def miscounted (s : State) (i : Fin 4) (t : Nat) : State :=
  ((s.setSlot i { s.slot i with tagRemaining := some t }).noteLevel i).debitIfDue i

theorem oneSlot_miscounted (s : State) (i : Fin 4) (t : Nat) : OneSlot i s (s.miscounted i t) :=
  ((oneSlot_setSlot ..).trans (oneSlot_noteLevel ..)).trans (oneSlot_debitIfDue ..)

theorem slot_miscounted (idle : s.cart.transaction = none) (t : Nat) : ∃ requests,
    (s.miscounted i t).slot i = { s.slot i with tagRemaining := some t, requests := requests } := by
  have still : ((s.setSlot i { s.slot i with tagRemaining := some t }).noteLevel i).cart.transaction = none :=
    (((oneSlot_setSlot ..).trans (oneSlot_noteLevel ..)).only.transaction).trans idle
  rw [miscounted, slot_debitIfDue still, slot_noteLevel, slot_setSlot_same]
  exact ⟨_, rfl⟩

theorem debitTaken_agrees (idle : s.cart.transaction = none) {amount t : Nat}
    (agrees : t = (s.slot i).tagRemaining.getD 0 - amount) :
    OneSlot i s (s.debitTaken i amount t) ∧ (s.debitTaken i amount t).link = s.link ∧
      (s.debitTaken i amount t).slot i = { s.slot i with
        tagRemaining := some t, pending := (s.slot i).pending - amount,
        requests := if 4096 ≤ (s.slot i).pending - amount - (s.slot i).unconfirmed.getD 0 ∨
            ((s.slot i).flush = none ∧ 0 < (s.slot i).pending - amount - (s.slot i).unconfirmed.getD 0)
          then { (s.slot i).requests with debit := true } else (s.slot i).requests } := by
  have parts : s.debitTaken i amount t = (s.setSlot i ((s.slot i).debited amount t)).debitIfDue i := if_pos agrees
  rw [parts, slot_debitIfDue (s := s.setSlot i ((s.slot i).debited amount t)) idle, slot_setSlot_same, link_debitIfDue]
  exact ⟨(oneSlot_setSlot ..).trans (oneSlot_debitIfDue ..), rfl, rfl⟩

theorem debitTaken_differs {amount t : Nat} (differs : t ≠ (s.slot i).tagRemaining.getD 0 - amount) :
    s.debitTaken i amount t = (s.miscounted i t).failChallenge i { before := (s.slot i).state } .tagMismatch :=
  if_neg differs

end State

/-! ## IDENTIFY with the slot's serial -/

/-- What a DEBIT settled by an IDENTIFY answer leaves of the slot (R101, R111). -/
def Slot.settled (sl : Slot) (remaining pending : Nat) : Slot :=
  { sl with
    tagRemaining := some remaining, pending := pending, unconfirmed := none,
    requests := if sl.unconfirmed.isSome = true ∧ (4096 ≤ pending ∨ (sl.flush = none ∧ 0 < pending)) then
        { sl.requests with debit := true } else sl.requests }

namespace State

variable {s : State} {i : Fin 4}

/-- A slot written without its unconfirmed debit, and the DEBIT that may then be due. -/
theorem slot_settle (idle : s.cart.transaction = none) {sl : Slot} (held : s.slot i = { sl with unconfirmed := none }) :
    (s.debitIfDue i).slot i = { sl with
      unconfirmed := none,
      requests := if 4096 ≤ sl.pending ∨ (sl.flush = none ∧ 0 < sl.pending) then { sl.requests with debit := true }
        else sl.requests } := by
  rw [slot_debitIfDue idle, held]
  rfl

theorem slot_setSlot_settle (idle : s.cart.transaction = none) (sl : Slot) :
    ((s.setSlot i { sl with unconfirmed := none }).debitIfDue i).slot i = { sl with
      unconfirmed := none,
      requests := if 4096 ≤ sl.pending ∨ (sl.flush = none ∧ 0 < sl.pending) then { sl.requests with debit := true }
        else sl.requests } := slot_settle (s := s.setSlot i { sl with unconfirmed := none }) idle (slot_setSlot_same ..)

theorem checkRemaining_held (idle : s.cart.transaction = none) {held : Nat} (tag : (s.slot i).tagRemaining = some held)
    (n : CartNews) : OneSlot i s (s.checkRemaining i held n) ∧
      (s.checkRemaining i held n).slot i = (s.slot i).settled held (s.slot i).pending := by
  cases unconfirmed : (s.slot i).unconfirmed with
  | none =>
    have parts : s.checkRemaining i held n = s.tellCart i n := by
      simp only [checkRemaining, unconfirmed, tag, if_true]
    rw [parts, slot_tellCart]
    refine ⟨oneSlot_tellCart .., ?_⟩
    simp only [Slot.settled, unconfirmed, Option.isSome_none, Bool.false_eq_true, false_and, if_false]
    rw [← tag, ← unconfirmed]
  | some m =>
    have parts : s.checkRemaining i held n = ((s.setSlot i { s.slot i with unconfirmed := none }).debitIfDue i).tellCart i n := by
      simp only [checkRemaining, unconfirmed, tag, if_true]
    rw [parts, slot_tellCart, slot_setSlot_settle idle]
    refine ⟨((oneSlot_setSlot ..).trans (oneSlot_debitIfDue ..)).trans (oneSlot_tellCart ..), ?_⟩
    simp only [Slot.settled, unconfirmed, Option.isSome_some, true_and]
    rw [← tag]

theorem checkRemaining_written (idle : s.cart.transaction = none) {held reported m : Nat}
    (tag : (s.slot i).tagRemaining = some held) (differs : reported ≠ held) (unconfirmed : (s.slot i).unconfirmed = some m)
    (agrees : reported = held - m) (n : CartNews) : OneSlot i s (s.checkRemaining i reported n) ∧
      (s.checkRemaining i reported n).slot i = (s.slot i).settled reported ((s.slot i).pending - m) := by
  have parts : s.checkRemaining i reported n =
      ((s.setSlot i { (s.slot i).debited m reported with unconfirmed := none }).debitIfDue i).tellCart i n := by
    simp only [checkRemaining, unconfirmed, tag, Option.some.injEq, if_neg differs.symm, Slot.remainingAfter, Option.getD_some,
      if_pos agrees]
  rw [parts, slot_tellCart, slot_setSlot_settle idle]
  refine ⟨((oneSlot_setSlot ..).trans (oneSlot_debitIfDue ..)).trans (oneSlot_tellCart ..), ?_⟩
  simp only [Slot.settled, unconfirmed, Option.isSome_some, true_and, Slot.debited]

theorem checkRemaining_wrong (idle : s.cart.transaction = none) {held reported : Nat}
    (tag : (s.slot i).tagRemaining = some held) (differs : reported ≠ held)
    (unwritten : ¬ ∃ m, (s.slot i).unconfirmed = some m ∧ reported = held - m) (n : CartNews) :
    ∃ d : State, s.checkRemaining i reported n = d.failChallenge i n .tagMismatch ∧ OneSlot i s d ∧
      d.slot i = (s.slot i).settled reported (s.slot i).pending := by
  let taken : Slot := { s.slot i with tagRemaining := some reported, unconfirmed := none }
  have one : OneSlot i s ((s.setSlot i taken).noteLevel i) := (oneSlot_setSlot ..).trans (oneSlot_noteLevel ..)
  cases unconfirmed : (s.slot i).unconfirmed with
  | none =>
    refine ⟨(s.setSlot i taken).noteLevel i, ?_, one, ?_⟩
    · simp only [checkRemaining, unconfirmed, tag, Option.some.injEq, if_neg differs.symm]
      rfl
    · rw [slot_noteLevel, slot_setSlot_same]
      simp only [taken, Slot.settled, unconfirmed, Option.isSome_none, Bool.false_eq_true, false_and, if_false]
  | some m =>
    have apart : ¬ reported = held - m := fun agrees => unwritten ⟨m, unconfirmed, agrees⟩
    refine ⟨((s.setSlot i taken).noteLevel i).debitIfDue i, ?_, one.trans (oneSlot_debitIfDue ..), ?_⟩
    · simp only [checkRemaining, unconfirmed, tag, Option.some.injEq, if_neg differs.symm, Slot.remainingAfter, Option.getD_some,
        if_neg apart]
      rfl
    · have held : ((s.setSlot i taken).noteLevel i).slot i = { taken with unconfirmed := none } := by
        rw [slot_noteLevel, slot_setSlot_same]
      rw [slot_settle (one.only.transaction.trans idle) held]
      simp only [taken, Slot.settled, unconfirmed, Option.isSome_some, true_and]

end State

/-- Where the remaining of an IDENTIFY answer is checked: on the slot as it stands, or as it returns from SILENT. -/
theorem State.identifyTaken_known {s : State} {i : Fin 4} {x : Identity} {back : SlotState}
    (state : (back = .genuine ∨ back = .suspect) ∧ (s.slot i).state = back ∨
      (s.slot i).state = .silent ∧ (s.slot i).remembered = some back ∧ x.serial ∉ s.cart.rejectList)
    (held : (s.slot i).serial = some x.serial) :
    ∃ (c : State) (n : CartNews), s.identifyTaken i x = c.checkRemaining i x.remaining n ∧ OneSlot i s c ∧
      c.slot i = if (s.slot i).state = .silent then (s.slot i).returned else s.slot i := by
  rcases state with ⟨trusted, same⟩ | ⟨silent, remembered, unlisted⟩
  · refine ⟨s, { before := (s.slot i).state }, ?_, .refl i s, ?_⟩
    · have checks : s.identifyTrusted i x = s.checkRemaining i x.remaining { before := (s.slot i).state } := if_pos held
      rcases trusted with genuine | suspect
      · rw [State.identifyTaken, same, genuine]
        dsimp only
        rw [checks, same, genuine]
      · rw [State.identifyTaken, same, suspect]
        dsimp only
        rw [checks, same, suspect]
    · rw [if_neg (by rw [same]; rcases trusted with h | h <;> rw [h] <;> decide)]
  · refine ⟨s.setSlot i (s.slot i).returned, { before := (s.slot i).state, cause := some .answered }, ?_, oneSlot_setSlot .., ?_⟩
    · rw [State.identifyTaken, silent]
      dsimp only
      rw [State.identifySilent, if_neg (by simpa using unlisted), if_pos held, silent]
    · rw [slot_setSlot_same, if_pos silent]

/-- Settles O32. -/
theorem debitAnswersAreChecked : Obligations.DebitAnswersAreChecked := by
  constructor
  · intro s t amount value outside busy work trusted fits sl uncovered failed
    let a := s.answered t.slot
    have own : a.slot t.slot = { sl with unanswered := 0 } := s.slot_answered t.slot
    have beside : State.Beside t.slot s a := s.beside_answered t.slot
    have kept : (s.slot t.slot).state.keeps = true := by rcases trusted with h | h <;> rw [h] <;> rfl
    have takes : s.tagAnswer (lineMessage (be 4 value)) = a.debitTaken t.slot amount value := by
      rw [State.tagAnswer_good busy kept (by rw [work, length_be]; rfl), work]
      dsimp only
      rw [num_be_of_lt fits]
    have remaining : (a.slot t.slot).tagRemaining.getD 0 = sl.tagRemaining.getD 0 := by rw [own]
    refine ⟨_, exec_debitAnswer outside _, ?_⟩
    rw [takes]
    by_cases agrees : value = sl.tagRemaining.getD 0 - amount
    · obtain ⟨one, link, final⟩ := State.debitTaken_agrees (s := a) (i := t.slot) (t := value) rfl (by rw [remaining]; exact agrees)
      rw [own] at final
      obtain ⟨others, _, _, meters⟩ := beside.trans one.beside
      exact ⟨one.frame.transaction, fun _ => ⟨final, others, meters, link⟩, absurd agrees, fun _ differs => absurd agrees differs,
        one.frame.units⟩
    · rw [State.debitTaken_differs (by rw [remaining]; exact agrees)]
      obtain ⟨requests, wrong⟩ := State.slot_miscounted (s := a) (i := t.slot) rfl value
      have one := a.oneSlot_miscounted t.slot value
      rw [own] at wrong
      have fails : ((a.miscounted t.slot value).slot t.slot).failsAfter = failed := by rw [wrong]; rfl
      have before := beside.trans one.beside
      have frame := one.frame.trans (State.framed_failChallenge (a.miscounted t.slot value) t.slot
        { before := (a.slot t.slot).state } .tagMismatch)
      refine ⟨frame.transaction, fun same => absurd same agrees, fun _ short => ?_, fun serial _ limit held => ?_, frame.units⟩
      · obtain ⟨final, others, _, _, meters⟩ := State.failChallenge_suspect before
          (by rw [fails, one.only.settings]; exact short) { before := (a.slot t.slot).state } .tagMismatch
        rw [final, fails, wrong]
        exact ⟨rfl, rfl, rfl, rfl, rfl, others, meters⟩
      · have rejected := State.failChallenge_rejected before (by rw [fails, one.only.settings]; exact limit)
          (serial := serial) (by rw [wrong]; exact held) { before := (a.slot t.slot).state } .tagMismatch
        dsimp only at rejected
        rw [fails, wrong, one.only.settings] at rejected
        exact rejected
  · intro s t serial yield held reported back outside busy work state own_ tag fits fits' sl base settled written failed
    let a := s.answered t.slot
    let x : Identity := ⟨serial, yield, reported⟩
    have own : a.slot t.slot = { sl with unanswered := 0 } := s.slot_answered t.slot
    obtain ⟨c, n, checks, one, found⟩ := State.identifyTaken_known (s := a) (i := t.slot) (x := x) (back := back)
      (by rw [own]; exact state) (by rw [own]; exact own_)
    have kept : (s.slot t.slot).state.keeps = true := by
      rcases state with ⟨h | h, same⟩ | ⟨silent, _⟩
      · rw [same, h]; rfl
      · rw [same, h]; rfl
      · rw [silent]; rfl
    have takes : s.tagAnswer (lineMessage (wordBytes serial ++ be 4 yield ++ be 4 reported)) =
        c.checkRemaining t.slot reported n := by
      rw [State.tagAnswer_good busy kept (by rw [work, length_identity]; rfl), work]
      dsimp only
      rw [identityOf_bytes serial fits fits']
      exact checks
    have found' : c.slot t.slot = { base with unanswered := 0 } := by
      rw [found, own]
      show (if sl.state = .silent then _ else _) = _
      by_cases silent : sl.state = .silent
      · have remembered : sl.remembered = some back := by
          rcases state with ⟨h | h, same⟩ | ⟨_, remembered, _⟩
          · rw [same, h] at silent; cases silent
          · rw [same, h] at silent; cases silent
          · exact remembered
        rw [if_pos silent]
        simp only [base, if_pos silent, Slot.returned, remembered, Option.getD_some, Slot.askChallenge]
      · rw [if_neg silent]
        simp only [base, if_neg silent]
    have same : base.state = back ∧ base.serial = sl.serial ∧ base.tagRemaining = sl.tagRemaining ∧ base.pending = sl.pending ∧
        base.unconfirmed = sl.unconfirmed ∧ base.flush = sl.flush ∧ base.fails = sl.fails ∧
        base.sinceInsertion = sl.sinceInsertion ∧ base.attribution = sl.attribution := by
      by_cases silent : sl.state = .silent
      · simp only [base, if_pos silent, and_self]
      · have kept : sl.state = back := by
          rcases state with ⟨_, same⟩ | ⟨h, _⟩
          · exact same
          · exact absurd h silent
        simp only [base, if_neg silent, kept, and_self]
    obtain ⟨backed, serial', tag', pending, unconfirmed, flush, fails, inserted, attribution⟩ := same
    clear_value base
    have settles : ∀ remaining pending, Slot.settled { base with unanswered := 0 } remaining pending =
        settled remaining pending := by
      intro remaining pending
      simp only [Slot.settled, settled, unconfirmed, flush]
    have idle : c.cart.transaction = none := one.only.transaction
    have tagged : (c.slot t.slot).tagRemaining = some held := by rw [found']; exact tag'.trans tag
    have unconfirmed' : (c.slot t.slot).unconfirmed = sl.unconfirmed := by rw [found']; exact unconfirmed
    have pending' : (c.slot t.slot).pending = sl.pending := by rw [found']; exact pending
    have before := (s.beside_answered t.slot).trans one.beside
    refine ⟨_, exec_identifyAnswer outside _, ?_⟩
    rw [takes]
    by_cases agrees : reported = held
    · subst agrees
      obtain ⟨one', final⟩ := State.checkRemaining_held idle tagged n
      rw [pending', found', settles] at final
      have frame := one.frame.trans one'.frame
      exact ⟨frame.transaction, fun _ => final, fun _ differs => absurd rfl differs, fun differs => absurd rfl differs,
        fun _ => (before.trans one'.beside).fields, fun differs => absurd rfl differs, frame.units⟩
    · by_cases wrote : written
      · obtain ⟨m, amount, value⟩ := wrote
        obtain ⟨one', final⟩ := State.checkRemaining_written idle tagged agrees (unconfirmed'.trans amount) value n
        rw [pending', found', settles] at final
        have frame := one.frame.trans one'.frame
        refine ⟨frame.transaction, fun same => absurd same agrees, fun m' _ amount' _ => ?_, fun _ unwritten => ?_,
          fun _ => (before.trans one'.beside).fields, fun _ unwritten => ?_, frame.units⟩
        · rw [final, Option.some.inj (amount.symm.trans amount')]
        · exact absurd ⟨m, amount, value⟩ unwritten
        · exact absurd ⟨m, amount, value⟩ unwritten
      · obtain ⟨d, parts, one', wrong⟩ := State.checkRemaining_wrong idle tagged agrees (by rw [unconfirmed']; exact wrote) n
        rw [pending', found', settles] at wrong
        have before' := before.trans one'.beside
        have settings : d.settings = s.settings := one'.only.settings.trans one.only.settings
        have counted : (d.slot t.slot).failsAfter = failed := by
          rw [wrong, Slot.failsAfter]
          show (if base.state = .genuine then 1 else base.fails + 1) = _
          rw [backed, fails]
        rw [parts]
        have frame := (one.frame.trans one'.frame).trans (State.framed_failChallenge d t.slot n .tagMismatch)
        have suspect := fun short : failed < s.settings.failLimit =>
          State.failChallenge_suspect before' (by rw [counted, settings]; exact short) n .tagMismatch
        rw [counted, wrong] at suspect
        refine ⟨frame.transaction, fun same => absurd same agrees, fun m _ amount value => absurd ⟨m, amount, value⟩ wrote,
          fun _ _ short => ?_, fun which => ?_, fun _ _ limit => ?_, frame.units⟩
        · rw [(suspect short).1, ← backed]
        · have short : failed < s.settings.failLimit := (which.resolve_left agrees).resolve_left wrote
          exact (suspect short).2.fields
        · have rejected := State.failChallenge_rejected before' (by rw [counted, settings]; exact limit)
            (serial := serial) (by rw [wrong]; exact serial'.trans own_) n .tagMismatch
          dsimp only at rejected
          rw [counted, wrong, settings] at rejected
          obtain ⟨final, shot, rest⟩ := rejected
          refine ⟨?_, ?_, rest⟩
          · rw [final]
          · rw [shot, ← inserted, ← attribution]
            rfl

end Sys2Proof.Machine
end

section
/-! PROOFS. Unanswered transactions (O33), the timers of a slot (O34) and its presence (O29). -/

namespace Sys2Proof.Machine

/-! ## A transaction without a good answer -/

namespace State

variable {s : State} {t : Transaction} {i : Fin 4}

theorem tagAnswer_bad (busy : s.cart.transaction = some t) (kept : (s.slot t.slot).state.keeps = true) {answer : List Byte}
    (bad : answerFields t.work.answerBytes answer = none) : s.tagAnswer answer = s.lineFree.unanswered t.slot t.work := by
  rw [tagAnswer, endTransaction, busy]
  dsimp only
  rw [show ((s.setCart { s.cart with transaction := none }).slot t.slot).state.keeps = true from kept, if_pos rfl, bad]
  rfl

theorem answerTimeout_busy (busy : s.cart.transaction = some t) (kept : (s.slot t.slot).state.keeps = true) :
    s.answerTimeout = s.lineFree.unanswered t.slot t.work := by
  rw [answerTimeout, endTransaction, busy]
  dsimp only
  rw [show ((s.setCart { s.cart with transaction := none }).slot t.slot).state.keeps = true from kept, if_pos rfl]
  rfl

theorem debitIfDue_debit (s : State) (i : Fin 4) : ∃ debit,
    (s.debitIfDue i).slot i = { s.slot i with requests := { (s.slot i).requests with debit := debit } } := by
  unfold debitIfDue
  split
  · exact ⟨true, slot_changeSlot_same ..⟩
  · exact ⟨(s.slot i).requests.debit, rfl⟩

/-- An unanswered transaction writes its slot alone, which may then ask for a DEBIT. -/
theorem slot_unanswered (s : State) (i : Fin 4) (w : LineWork) : ∃ debit,
    OneSlot i s (s.unanswered i w) ∧ (s.unanswered i w).slot i =
      { (s.slot i).missed.again w with requests := { ((s.slot i).missed.again w).requests with debit := debit } } := by
  unfold unanswered
  dsimp only
  have one := s.oneSlot_setSlot i ((s.slot i).missed.again w)
  rw [slot_tellCart]
  cases w with
  | identify =>
    exact ⟨_, one.trans (oneSlot_tellCart ..), slot_setSlot_same ..⟩
  | challenge c e =>
    exact ⟨_, one.trans (oneSlot_tellCart ..), slot_setSlot_same ..⟩
  | debit m =>
    obtain ⟨debit, due⟩ := debitIfDue_debit (s.setSlot i ((s.slot i).missed.again (.debit m))) i
    rw [slot_setSlot_same] at due
    exact ⟨debit, (one.trans (oneSlot_debitIfDue ..)).trans (oneSlot_tellCart ..), due⟩

end State

/-- The first and the second unanswered transaction in a row are counted. -/
theorem Slot.missed_few {sl : Slot} (few : sl.unanswered < 2) : sl.missed = { sl with unanswered := sl.unanswered + 1 } := by
  have count : min 3 (sl.unanswered + 1) = sl.unanswered + 1 := by omega
  have third : ((sl.unanswered + 1 == 3) : Bool) = false := by simp; omega
  rw [Slot.missed]
  simp only [count, third, Bool.and_false, Bool.false_eq_true, if_false]

/-- The third sends the slot to SILENT. -/
theorem Slot.missed_third {sl : Slot} (many : 2 ≤ sl.unanswered) (heard : sl.state ≠ .silent) :
    sl.missed = { sl with unanswered := 3, state := .silent, remembered := some sl.state, recheck := some 0 } := by
  have count : min 3 (sl.unanswered + 1) = 3 := by omega
  have loud : (sl.state != .silent) = true := by simpa using heard
  rw [Slot.missed]
  simp only [count, loud, beq_self_eq_true, Bool.and_self, if_true]

theorem Slot.missed_silent {sl : Slot} (silent : sl.state = .silent) :
    sl.missed = { sl with unanswered := min 3 (sl.unanswered + 1) } := by
  rw [Slot.missed]
  simp only [silent, bne_self_eq_false, Bool.false_and, Bool.false_eq_true, if_false]

/-- The requests of a slot that asks for an IDENTIFY unless it is SILENT. -/
def Slot.asked (sl : Slot) : Requests := if sl.state = .silent then sl.requests else { sl.requests with identify := true }

theorem Slot.askIdentifyUnlessSilent_eq (sl : Slot) : sl.askIdentifyUnlessSilent = { sl with requests := sl.asked } := by
  rw [Slot.askIdentifyUnlessSilent, Slot.asked]; split <;> rfl

/-- A repeated request, or a held debit, is all that R92 writes after the count. -/
theorem Slot.again_eq (sl : Slot) (w : LineWork) : ∃ requests unconfirmed,
    sl.again w = { sl with requests := requests, unconfirmed := unconfirmed } ∧
      (sl.state = .silent → requests.identify = sl.requests.identify) ∧
      (sl.state ≠ .silent → w = .identify ∨ (∃ m, w = .debit m) → requests.identify = true) ∧
      (∀ c e, w = .challenge c e → requests.challenge = true) ∧ (∀ m, w = .debit m → unconfirmed = some m) := by
  have quiet : sl.state = .silent → sl.asked.identify = sl.requests.identify := fun silent => by rw [Slot.asked, if_pos silent]
  have asks : sl.state ≠ .silent → sl.asked.identify = true := fun heard => by rw [Slot.asked, if_neg heard]
  cases w with
  | identify =>
    refine ⟨sl.asked, sl.unconfirmed, sl.askIdentifyUnlessSilent_eq, quiet, fun heard _ => asks heard, ?_, ?_⟩
    · rintro c e ⟨⟩
    · rintro m ⟨⟩
  | challenge c e =>
    refine ⟨{ sl.requests with challenge := true }, sl.unconfirmed, rfl, fun _ => rfl, fun _ other => ?_, fun _ _ _ => rfl, ?_⟩
    · rcases other with other | ⟨m, other⟩ <;> cases other
    · rintro m ⟨⟩
  | debit m =>
    refine ⟨sl.asked, some m, ?_, quiet, fun heard _ => asks heard, ?_, ?_⟩
    · rw [Slot.again, Slot.askIdentifyUnlessSilent_eq]
    · rintro c e ⟨⟩
    · rintro m' ⟨⟩; rfl

theorem Slot.missed_again_silent {sl : Slot} (silent : sl.state = .silent) :
    sl.missed.again .identify = { sl with unanswered := min 3 (sl.unanswered + 1) } := by
  rw [Slot.missed_silent silent]; exact if_pos silent

/-- The clause of O33 about a slot that answers nothing: what its record holds afterwards. -/
theorem State.unanswered_slot {s : State} {i : Fin 4} (heard : (s.slot i).state ≠ .silent) (w : LineWork) :
    let sl := s.slot i
    let u := s.unanswered i w
    (u.slot i).fails = sl.fails ∧ (u.slot i).pending = sl.pending ∧ (u.slot i).serial = sl.serial ∧
      (u.slot i).tagRemaining = sl.tagRemaining ∧
      (sl.unanswered < 2 → (u.slot i).state = sl.state ∧ (u.slot i).unanswered = sl.unanswered + 1 ∧
        (w = .identify → (u.slot i).requests.identify = true) ∧
        (∀ m, w = .debit m → (u.slot i).requests.identify = true)) ∧
      (2 ≤ sl.unanswered → (u.slot i).state = .silent ∧ (u.slot i).unanswered = 3 ∧
        (u.slot i).remembered = some sl.state ∧ (u.slot i).recheck = some 0 ∧
        (u.slot i).requests.identify = sl.requests.identify) ∧
      (∀ c e, w = .challenge c e → (u.slot i).requests.challenge = true) ∧
      (∀ m, w = .debit m → (u.slot i).unconfirmed = some m) := by
  intro sl u
  obtain ⟨debit, _, final⟩ := s.slot_unanswered i w
  obtain ⟨requests, unconfirmed, again, silent, asks, challenge, held⟩ := sl.missed.again_eq w
  rw [show (s.slot i).missed.again w = _ from again] at final
  by_cases few : sl.unanswered < 2
  · rw [Slot.missed_few few] at final asks
    rw [show u.slot i = _ from final]
    exact ⟨rfl, rfl, rfl, rfl, fun _ => ⟨rfl, rfl, fun h => asks heard (Or.inl h), fun m h => asks heard (Or.inr ⟨m, h⟩)⟩,
      fun many => absurd few (Nat.not_lt.mpr many), challenge, held⟩
  · have many : 2 ≤ sl.unanswered := Nat.not_lt.mp few
    rw [Slot.missed_third many heard] at final silent
    rw [show u.slot i = _ from final]
    exact ⟨rfl, rfl, rfl, rfl, fun h => absurd h few, fun _ => ⟨rfl, rfl, rfl, rfl, silent rfl⟩, challenge, held⟩

/-- Settles O33. -/
theorem unansweredTransactionsRepeat : Obligations.UnansweredTransactionsRepeat := by
  refine ⟨?_, ?_, ?_⟩
  · intro s t answer outside busy state bad sl
    have state' : (s.slot t.slot).state.challengeable := state
    have heard : (s.lineFree.slot t.slot).state ≠ .silent := by
      show (s.slot t.slot).state ≠ .silent
      rcases state with h | h | h <;> rw [h] <;> decide
    obtain ⟨debit, one, _⟩ := s.lineFree.slot_unanswered t.slot t.work
    obtain ⟨fails, pending, serial, remaining, few, many, challenge, held⟩ := State.unanswered_slot heard t.work
    refine ⟨s.lineFree.unanswered t.slot t.work, ?_, ?_, one.frame.transaction, one.others, fails, pending, serial, remaining,
      few, many, challenge, held, one.only.meters, one.frame.units⟩
    · rw [exec_badAnswer outside, State.tagAnswer_bad busy state'.keeps bad]
    · rw [exec_answerTimeout outside, State.answerTimeout_busy busy state'.keeps]
  · intro s t answer outside busy silent work bad after
    have kept : (s.slot t.slot).state.keeps = true := by rw [silent]; rfl
    have ends : s.lineFree.unanswered t.slot t.work = after := by
      rw [State.unanswered, work]
      dsimp only [State.afterDebit]
      rw [Slot.missed_again_silent (show (s.lineFree.slot t.slot).state = .silent from silent), if_pos rfl]
      rfl
    constructor
    · rw [exec_badAnswer outside, State.tagAnswer_bad busy kept (by rw [work]; exact bad), ends]
    · rw [exec_answerTimeout outside, State.answerTimeout_busy busy kept, ends]
  · intro s t serial yield remaining back outside busy work silent remembered held unlisted settled tag fits fits' sl
    let a := s.answered t.slot
    have own : a.slot t.slot = { sl with unanswered := 0 } := s.slot_answered t.slot
    obtain ⟨c, n, checks, one, found⟩ := State.identifyTaken_known (s := a) (i := t.slot) (x := ⟨serial, yield, remaining⟩)
      (back := back) (by rw [own]; exact Or.inr ⟨silent, remembered, unlisted⟩) (by rw [own]; exact held)
    have takes : s.tagAnswer (lineMessage (wordBytes serial ++ be 4 yield ++ be 4 remaining)) =
        c.checkRemaining t.slot remaining n := by
      rw [State.tagAnswer_good busy (by rw [silent]; rfl) (by rw [work, length_identity]; rfl), work]
      dsimp only
      rw [identityOf_bytes serial fits fits']
      exact checks
    rw [own, if_pos silent] at found
    obtain ⟨one', final⟩ := State.checkRemaining_held (s := c) (i := t.slot) one.only.transaction (by rw [found]; exact tag) n
    have frame := one.frame.trans one'.frame
    obtain ⟨others, list, _, meters⟩ := (s.beside_answered t.slot).trans (one.beside.trans one'.beside)
    refine ⟨_, exec_identifyAnswer outside _, ?_⟩
    rw [takes]
    refine ⟨frame.transaction, ?_, others, list, meters, frame.units⟩
    have unconfirmed : sl.unconfirmed = none := settled
    have memory : sl.remembered = some back := remembered
    rw [final, found, Slot.settled]
    simp only [Slot.returned, Slot.askChallenge, unconfirmed, memory, Option.getD_some, Option.isSome_none, Bool.false_eq_true,
      false_and, if_false]
    rw [← show sl.tagRemaining = some remaining from tag]

/-! ## The timers of a slot -/

namespace State

variable {s : State} {i : Fin 4} {n : Nat}

theorem recheckExpired_runs (runs : (s.slot i).recheck = some n) : s.recheckExpired i = s.setSlot i (s.slot i).rechecked := by
  rw [recheckExpired, if_pos (by rw [runs]; rfl)]; rfl

/-- The flush timer has stopped, and nothing else has changed of the slot. -/
theorem flushExpired_runs (runs : (s.slot i).flush = some n) : s.flushExpired i =
    s.setSlot i (if 0 < s.cart.uncovered i then { s.slot i with flush := none }.askDebit else { s.slot i with flush := none }) := by
  have uncovered : (s.changeSlot i fun sl => { sl with flush := none }).cart.uncovered i = s.cart.uncovered i :=
    uncovered_setSlot ..
  rw [flushExpired, if_pos (by rw [runs]; rfl)]
  dsimp only
  rw [uncovered]
  by_cases above : 0 < s.cart.uncovered i
  · rw [if_pos above, if_pos above, changeSlot, slot_changeSlot_same]
    exact setSlot_setSlot ..
  · rw [if_neg above, if_neg above]; rfl

end State

/-- Settles O34. -/
theorem slotTimersAskForWork : Obligations.SlotTimersAskForWork := by
  intro s i n outside sl
  have rechecks : exec (.recheckExpiry i) s = .next (s.recheckExpired i).finish := by
    show Host.Outcome.next (outsideReset s fun s => s.recheckExpired i) = _
    rw [outsideReset_out outside]
  have flushes : exec (.flushExpiry i) s = .next (s.flushExpired i).finish := by
    show Host.Outcome.next (outsideReset s fun s => s.flushExpired i) = _
    rw [outsideReset_out outside]
  rw [rechecks, flushes]
  refine ⟨fun runs suspect => ?_, fun runs silent => ?_, fun runs above => ?_, fun runs covered => ?_⟩
  · rw [State.recheckExpired_runs runs, Slot.rechecked]
    dsimp only
    rw [show (s.slot i).state = .suspect from suspect]
    rfl
  · rw [State.recheckExpired_runs runs, Slot.rechecked]
    dsimp only
    rw [show (s.slot i).state = .silent from silent]
    rfl
  · rw [State.flushExpired_runs runs, if_pos above]; rfl
  · rw [State.flushExpired_runs runs, if_neg (by omega)]

/-! ## Presence -/

/-- Settles O29. -/
theorem presenceMovesTheSlot : Obligations.PresenceMovesTheSlot := by
  intro s i outside
  refine ⟨fun absent => ?_, fun present => ?_⟩
  · have risen : s.cartInserted i = (s.changeSlot i Slot.inserted).tellCart i
        { before := (s.slot i).state, cause := some .inserted } := if_neg (by rw [absent]; decide)
    show Host.Outcome.next (if s.resetting.isSome then _ else (s.cartInserted i).finish) = _
    rw [outside, risen, State.tellCart, State.slot_changeSlot_same]
    rfl
  · have fallen : s.cartRemoved i = ((s.setCart (s.cart.dropTransaction i)).setSlot i (s.slot i).emptied).tellCart i
        { before := (s.slot i).state, cause := some .removed, discarded := (s.slot i).pending } := if_pos present
    show Host.Outcome.next (if s.resetting.isSome then _ else (s.cartRemoved i).finish) = _
    rw [outside, fallen, State.tellCart, State.slot_setSlot_same]
    rfl

end Sys2Proof.Machine
end

section
/-! PROOFS. STREAM BIND (O38). -/

namespace Sys2Proof.Machine

/-- No row applies, and nothing is refused. -/
theorem firstRefusal_none_of_rows {props : List (Prop × Status)} {rows : List (Bool × Status)} (same : SameRows props rows)
    (fail : ∀ x ∈ props, ¬ x.1) : firstRefusal rows = none := by
  induction same with
  | nil => rfl
  | @cons x y props rows both _ ih =>
    rw [firstRefusal, if_neg (mt both.1.mpr (fail x List.mem_cons_self))]
    exact ih fun z mem => fail z (List.mem_cons_of_mem _ mem)

/-! ## The body -/

theorem parseStreamBind_bytes {k n : Nat} {w : Window} (stream : k < 256) (job : n < 65536) (first : w.first < 65536)
    (per : w.perHalf < 256) (halves : w.halves < 256) :
    parseStreamBind (be 1 k ++ be 2 n ++ be 2 w.first ++ be 1 w.perHalf ++ be 1 w.halves) =
      some { stream := k, job := n, window := w } := by
  have jobs := num_be_two job
  have firsts := num_be_two first
  rw [be_two] at jobs firsts
  simp only [be_one, be_two, List.cons_append, List.nil_append, parseStreamBind, toNat_be_one stream, toNat_be_one per,
    toNat_be_one halves, jobs, firsts]

/-! ## The checks -/

theorem overlaps_iff (r q : BlockRange) : r.overlaps q = true ↔
    ∃ c, r.first ≤ c ∧ c < r.first + r.count ∧ q.first ≤ c ∧ c < q.first + q.count := by
  rw [BlockRange.overlaps, decide_eq_true_iff]
  constructor
  · rintro ⟨_, _, _, _⟩
    exact ⟨max r.first q.first, by omega, by omega, by omega, by omega⟩
  · rintro ⟨c, _, _, _, _⟩
    exact ⟨by omega, by omega, by omega, by omega⟩

theorem any_streams_iff (s : State) (f : Stream → Bool) : s.streams.toList.any f = true ↔ ∃ k, f (s.stream k) = true := by
  rw [show s.streams.toList = fourIndices.map s.stream from rfl, List.any_map, List.any_eq_true]
  exact ⟨fun ⟨k, _, holds⟩ => ⟨k, holds⟩, fun ⟨k, holds⟩ => ⟨k, mem_fourIndices k, holds⟩⟩

theorem windowOverlaps_iff (s : State) (w : Window) : s.windowOverlaps w = true ↔ ∃ k v, (s.stream k).window = some v ∧
    ∃ c, v.first ≤ c ∧ c < v.first + v.perHalf * v.halves ∧ w.first ≤ c ∧ c < w.first + w.perHalf * w.halves := by
  rw [State.windowOverlaps, any_streams_iff]
  refine exists_congr fun k => ?_
  cases window : (s.stream k).window with
  | none => simp
  | some v => simp [overlaps_iff, Window.range]

theorem windowWiped_iff (s : State) (w : Window) : s.windowWiped w = true ↔ ∃ r ∈ s.pool.wipe,
    ∃ c, r.first ≤ c ∧ c < r.first + r.count ∧ w.first ≤ c ∧ c < w.first + w.perHalf * w.halves := by
  simp [State.windowWiped, List.any_eq_true, overlaps_iff, Window.range]

theorem outOfRange_iff (w : Window) : w.outOfRange = true ↔ w.perHalf < 1 ∨ 64 < w.perHalf ∨ w.halves < 1 ∨ 2 < w.halves ∨
    511 < w.first ∨ 511 < w.first + w.perHalf * w.halves - 1 := by
  simp only [Window.outOfRange, Bool.or_eq_true, decide_eq_true_iff]
  have pool : Config.poolBlocks = 512 := rfl
  rw [pool]
  omega

theorem bindForbidden_iff (s : State) (se : Session) (j : Job) (a : Account) : s.bindForbidden se j a = true ↔
    (j.kind = .copy ∨ j.kind = .print ∨ j.stream.isSome = true ∨ j.owner ≠ se.position ∨ j.state = .closing ∨
      (j.kind = .scan ∧ j.state ≠ .opened) ∨ a.boxRight = false ∨
      (j.kind = .boxPrint ∧ s.documentColour j.document = true ∧ a.colourRight = .mono)) := by
  have uses : j.kind.usesStore = false ↔ j.kind = .copy ∨ j.kind = .print := by
    cases j.kind <;> simp [JobKind.usesStore]
  simp only [State.bindForbidden, State.bindsColour, Bool.or_eq_true, Bool.and_eq_true, Bool.not_eq_true', bne_iff_ne, beq_iff_eq,
    uses, or_assoc, and_assoc]

/-- The rows of the statement are the checks of the model. -/
theorem sameRows_bind (s : State) (se : Session) (i : Fin 4) (j : Job) (a : Account) (w : Window) :
    let shares (first count : Nat) := ∃ c, first ≤ c ∧ c < first + count ∧ w.first ≤ c ∧ c < w.first + w.perHalf * w.halves
    SameRows
      [((s.stream i).state ≠ .idle, .busy),
       (j.kind = .copy ∨ j.kind = .print ∨ j.stream.isSome = true ∨ j.owner ≠ se.position ∨ j.state = .closing ∨
         (j.kind = .scan ∧ j.state ≠ .opened) ∨ a.boxRight = false ∨
         (j.kind = .boxPrint ∧ s.documentColour j.document = true ∧ a.colourRight = .mono), .notPermitted),
       ((∀ d, j.document = some d → s.document d = none), .noDocument),
       (s.tamper.latch = true, .tampered),
       (w.perHalf < 1 ∨ 64 < w.perHalf ∨ w.halves < 1 ∨ 2 < w.halves ∨ 511 < w.first ∨
         511 < w.first + w.perHalf * w.halves - 1, .range),
       (s.pool.underReset = true, .busy),
       ((∃ k v, (s.stream k).window = some v ∧ shares v.first (v.perHalf * v.halves)), .overlap),
       ((∃ r ∈ s.pool.wipe, shares r.first r.count), .busy),
       (8 ≤ s.pool.wipe.length + boundWindows s.streams, .busy)]
      (s.bindChecks se i j a w) := by
  intro shares
  refine .cons ⟨bne_iff_ne.symm, rfl⟩ (.cons ⟨(bindForbidden_iff ..).symm, rfl⟩ (.cons ⟨?_, rfl⟩ (.cons ⟨Iff.rfl, rfl⟩
    (.cons ⟨(outOfRange_iff w).symm, rfl⟩ (.cons ⟨Iff.rfl, rfl⟩ (.cons ⟨(windowOverlaps_iff s w).symm, rfl⟩
    (.cons ⟨(windowWiped_iff s w).symm, rfl⟩ (.cons ⟨decide_eq_true_iff.symm, rfl⟩ .nil))))))))
  cases j.document <;> simp

/-! ## The request -/

section Bind
variable {s : State} {se : Session} {n : Nat} {w : Window} {i : Fin 4} {j : Job} {a : Account}

theorem serveStreamBind_parsed {body : List Byte} {k : Nat} (active : s.session = some se)
    (spells : parseStreamBind body = some { stream := k, job := n, window := w }) :
    serveStreamBind body s = withStream (s.used se) k fun i => withJob (s.used se) n fun j => (s.used se).bindJob se i j w := by
  rw [serveStreamBind, spells, withParsed_some]
  exact asSession_some active _

theorem bindJob_refused {st : Status} (present : s.account j.owner = some a)
    (refused : firstRefusal (s.bindChecks se i j a w) = some st) : s.bindJob se i j w = refuse s st := by
  rw [State.bindJob, present]
  dsimp only
  rw [refused]

theorem bindJob_accepted (present : s.account j.owner = some a) (accepted : firstRefusal (s.bindChecks se i j a w) = none) :
    s.bindJob se i j w = okWith (s.bindStream i j w) (be 1 i.val ++ enumByte j.kind.streamKind.code ++ w.bytes) := by
  rw [State.bindJob, present]
  dsimp only
  rw [accepted]

end Bind

/-- Settles O38. -/
theorem streamBindStartsInHold : Obligations.StreamBindStartsInHold := by
  constructor
  · intro s se i n d j a w serving active order fits present owned idle kind owner free box document there colour calm perLow perHigh
      halvesLow halvesHigh inside ready apart wiped room
    have number := State.number_of_job order present
    have blocks : w.first + 1 ≤ 512 := by
      have some_ : 1 * 1 ≤ w.perHalf * w.halves := Nat.mul_le_mul perLow halvesLow
      omega
    have accepted : firstRefusal (s.bindChecks se i j a w) = none := by
      refine firstRefusal_none_of_rows (sameRows_bind s se i j a w) ?_
      have disjoint : ∀ first count : Nat, first + count ≤ w.first ∨ w.first + w.perHalf * w.halves ≤ first →
          ¬ ∃ c, first ≤ c ∧ c < first + count ∧ w.first ≤ c ∧ c < w.first + w.perHalf * w.halves := by
        rintro first count apart ⟨c, _, _, _, _⟩
        omega
      have open_ : j.state ≠ .closing := by
        rcases kind with ⟨_, opened⟩ | ⟨_, open_⟩
        · rw [opened]; decide
        · exact open_
      simp only [List.forall_mem_cons, List.not_mem_nil, false_imp_iff, implies_true, and_true]
      refine ⟨not_not.mpr idle, ?_, ?_, Bool.eq_false_iff.mp calm, by omega, Bool.eq_false_iff.mp ready, ?_, ?_, by omega⟩
      · rintro (copy | print | bound | stranger | closing | ⟨scan, running⟩ | denied | ⟨box_, hue, mono⟩)
        · rcases kind with ⟨h, _⟩ | ⟨h, _⟩ <;> rw [h] at copy <;> cases copy
        · rcases kind with ⟨h, _⟩ | ⟨h, _⟩ <;> rw [h] at print <;> cases print
        · rw [free] at bound; cases bound
        · exact stranger owner
        · exact open_ closing
        · rcases kind with ⟨_, opened⟩ | ⟨h, _⟩
          · exact running opened
          · rw [h] at scan; cases scan
        · rw [box] at denied; cases denied
        · rw [colour box_ hue] at mono; cases mono
      · intro none_
        rw [none_ d document] at there
        cases there
      · rintro ⟨k, v, window, shared⟩
        exact disjoint _ _ (apart k v window) shared
      · rintro ⟨r, mem, shared⟩
        exact disjoint _ _ (wiped r mem) shared
    have served : serveStreamBind (be 1 i.val ++ be 2 n ++ be 2 w.first ++ be 1 w.perHalf ++ be 1 w.halves) s =
        okWith ((s.used se).bindStream i j w) (be 1 i.val ++ enumByte j.kind.streamKind.code ++ w.bytes) := by
      rw [serveStreamBind_parsed active (parseStreamBind_bytes (by omega) fits (by omega) (by omega) (by omega)), withStream_index,
        withJob_some (s := s.used se) present]
      exact bindJob_accepted (s := s.used se) owned accepted
    have bound : (s.used se).bindStream i j w = ((s.used se).setStream i
        { kind := some (if j.kind = .scan then .encode else .release), state := .hold, job := some n, document := some d,
          window := some w, pageStart := true, pageClass := j.sizeClass }).changeJob n fun x => { x with stream := some i } := by
      rw [State.bindStream, Job.boundStream, document, number]
      rfl
    have kindByte : enumByte j.kind.streamKind.code = [if j.kind = .scan then 0 else 1] := by
      rw [JobKind.streamKind]; split <;> rfl
    rw [kindByte, Window.bytes, bound] at served
    have framed := requestFrame_ok serving (cls := 23) served
    rw [← List.append_assoc, ← List.append_assoc] at framed
    exact framed
  · intro s se k n w serving active stream job first per halves body
    have spells := parseStreamBind_bytes stream job first per halves
    refine ⟨fun unknown => requestFrame_no serving ?_, ?_⟩
    · rw [serveStreamBind_parsed active spells]
      by_cases above : 4 ≤ k
      · exact withStream_above above _
      · rw [show k = (⟨k, Nat.lt_of_not_le above⟩ : Fin 4).val from rfl, withStream_index]
        exact withJob_none (s := s.used se) (unknown.resolve_left above) _
    · intro i j a same present owned shares
      subst same
      refine firstApplies_of_rows (sameRows_bind s se i j a w) fun st refused => requestFrame_no serving ?_
      rw [serveStreamBind_parsed active spells, withStream_index, withJob_some (s := s.used se) present]
      exact bindJob_refused (s := s.used se) owned refused

end Sys2Proof.Machine
end

section
/-! PROOFS. STREAM FLOW and STREAM HOLD (O39), STREAM CLEAR (O40). -/

namespace Sys2Proof.Machine

/-- A request on a stream of a number that no stream has. -/
theorem withStream_byte_above {s : State} {n : Nat} (above : 4 ≤ n) (fits : n < 256) (serve : Fin 4 → Served) :
    (withParsed (parseNumber 1 (be 1 n)) s fun n => withStream s n serve) = refuse s .range := by
  rw [parseNumber_be fits, withParsed_some]
  exact withStream_above above serve

/-- A request on a stream. -/
theorem withStream_byte (s : State) (i : Fin 4) (serve : Fin 4 → Served) :
    (withParsed (parseNumber 1 (be 1 i.val)) s fun n => withStream s n serve) = serve i := by
  rw [parseNumber_be (show i.val < 256 ^ 1 by omega), withParsed_some]
  exact withStream_index i serve

/-! ## STREAM FLOW -/

theorem Stream.flowing_eq (st : Stream) : st.flowing =
    { st with state := .flow, idle := if st.stored = true ∧ st.lastBand = false then some 0 else none } := by
  have condition : (st.stored && !st.lastBand) = true ↔ st.stored = true ∧ st.lastBand = false := by simp
  simp only [Stream.flowing, condition]

namespace State

variable {s : State} {i : Fin 4} {se : Session} {n : Nat} {j : Job}

theorem streamJob_eq (named : (s.stream i).job = some n) (present : s.job n = some j) : s.streamJob i = some j := by
  rw [streamJob, named]; exact present

theorem ownerPresent_iff (own : s.streamJob i = some j) :
    s.ownerPresent i = true ↔ ∃ se, s.session = some se ∧ j.owner = se.position := by
  rw [ownerPresent, own]
  show s.sessionOn j.owner = true ↔ _
  rw [sessionOn]
  cases s.session with
  | none => exact ⟨fun h => (nomatch h), fun ⟨se, h, _⟩ => (nomatch h)⟩
  | some se =>
    rw [Option.map_some, beq_iff_eq, Option.some.injEq]
    exact ⟨fun same => ⟨se, rfl, same.symm⟩, fun ⟨se', active, owner⟩ => by cases active; exact owner.symm⟩

theorem touchForFlow_owner (kind : (s.stream i).kind = some .release) (owner : s.ownerPresent i = true)
    (active : s.session = some se) : s.touchForFlow i = s.used se := by
  rw [touchForFlow, if_pos ⟨kind, owner⟩]
  exact s.touchSession_some active

theorem touchForFlow_stranger (stranger : s.ownerPresent i = false) : s.touchForFlow i = s := by
  rw [touchForFlow, if_neg (by rw [stranger]; simp)]

theorem touchForFlow_encode (kind : (s.stream i).kind = some .encode) : s.touchForFlow i = s := by
  rw [touchForFlow, if_neg (by rw [kind]; simp)]

/-- Only the session idle timer may be different. -/
theorem touchForFlow_eq (s : State) (i : Fin 4) : ∃ session, s.touchForFlow i = s.setSession session := by
  unfold touchForFlow
  split
  · exact ⟨_, rfl⟩
  · exact ⟨s.session, rfl⟩

theorem flowStream_refused {st : Status} (hold : (s.stream i).state = .hold) (refused : s.flowRefusal i = some st) :
    s.flowStream i = refuse s st := by
  rw [flowStream, if_pos hold, refused]

theorem flowStream_accepted (hold : (s.stream i).state = .hold) (accepted : s.flowRefusal i = none) :
    s.flowStream i = okWith (s.changeStream i Stream.flowing) [] := by
  rw [flowStream, if_pos hold, accepted]

theorem flowRefusal_release (kind : (s.stream i).kind = some .release) : s.flowRefusal i = firstRefusal (s.flowChecks i) := if_pos kind

theorem flowRefusal_tampered (kind : (s.stream i).kind = some .release) (latched : s.tamper.latch = true) :
    s.flowRefusal i = some .tampered := by
  rw [flowRefusal_release kind, flowChecks, firstRefusal, if_pos latched]

/-- Release gating without a tamper latch, on a stream with its job. -/
theorem flowRefusal_calm (kind : (s.stream i).kind = some .release) (calm : s.tamper.latch = false)
    (own : s.streamJob i = some j) : s.flowRefusal i =
      if s.ownerPresent i = false then some .noSession
      else if j.state = .stopping then some .notPermitted
      else if s.cart.mono = false ∨ s.cart.colour = false ∧ s.documentColour (s.stream i).document = true then
        some .tonerUnavailable
      else none := by
  rw [flowRefusal_release kind, flowChecks, own]
  simp [firstRefusal, calm]

theorem ownerPresent_used (own : s.streamJob i = some j) (owner : j.owner = se.position) : (s.used se).ownerPresent i = true :=
  (ownerPresent_iff (s := s.used se) own).mpr ⟨{ se with idle := 0 }, rfl, owner⟩

end State

/-- Settles O39. -/
theorem flowAndHoldMoveTheStream : Obligations.FlowAndHoldMoveTheStream := by
  intro s i serving st flowing
  have served : serveStreamFlow (be 1 i.val) s = (s.touchForFlow i).flowStream i :=
    withStream_byte s i fun i => (s.touchForFlow i).flowStream i
  have held : serveStreamHold (be 1 i.val) s = s.holdStream i := withStream_byte s i s.holdStream
  have flows : ∀ t : State, t.stream i = st → t.changeStream i Stream.flowing = t.setStream i flowing := by
    intro t same
    rw [State.changeStream, same, Stream.flowing_eq]
  refine ⟨fun hold encode => ?_, fun se n j hold release active named present owner calm runs mono colour => ?_,
    fun hold release latched => ?_, fun n j hold release calm named present => ⟨fun stranger => ?_, fun se active owner => ?_⟩,
    fun n above fits => ⟨requestFrame_no serving (withStream_byte_above above fits _),
      requestFrame_no serving (withStream_byte_above above fits _)⟩, fun ports => ?_, fun moved => ?_, fun flow => ?_, fun still => ?_⟩
  · have accepted : s.flowRefusal i = none := if_neg (by rw [show (s.stream i).kind = _ from encode]; simp)
    rw [State.touchForFlow_encode encode, State.flowStream_accepted hold accepted, flows s rfl] at served
    exact requestFrame_ok serving served
  · have own := State.streamJob_eq (s := s) (i := i) named present
    have ready : ¬ (s.cart.mono = false ∨ s.cart.colour = false ∧ s.documentColour (s.stream i).document = true) := by
      rintro (out | ⟨out, hue⟩)
      · rw [mono] at out; cases out
      · rw [colour hue] at out; cases out
    have accepted : (s.used se).flowRefusal i = none := by
      rw [State.flowRefusal_calm (s := s.used se) release calm own, State.ownerPresent_used own owner, if_neg (by decide), if_neg runs]
      exact if_neg ready
    rw [State.touchForFlow_owner release ((State.ownerPresent_iff own).mpr ⟨se, active, owner⟩) active,
      State.flowStream_accepted (s := s.used se) hold accepted, flows (s.used se) rfl] at served
    exact requestFrame_ok serving served
  · obtain ⟨session, same⟩ := s.touchForFlow_eq i
    rw [same] at served ⊢
    exact requestFrame_no serving (served.trans (State.flowStream_refused (s := s.setSession session) hold
      (State.flowRefusal_tampered (s := s.setSession session) release latched)))
  · have own := State.streamJob_eq (s := s) (i := i) named present
    have absent : s.ownerPresent i = false := by
      refine Bool.eq_false_iff.mpr fun there => ?_
      obtain ⟨se, active, owner⟩ := (State.ownerPresent_iff own).mp there
      exact stranger se active owner
    rw [State.touchForFlow_stranger absent] at served
    refine requestFrame_no serving (served.trans (State.flowStream_refused hold ?_))
    rw [State.flowRefusal_calm release calm own, if_pos absent]
  · have own := State.streamJob_eq (s := s) (i := i) named present
    rw [State.touchForFlow_owner release ((State.ownerPresent_iff own).mpr ⟨se, active, owner⟩) active] at served
    have gate := State.flowRefusal_calm (s := s.used se) release calm own
    rw [State.ownerPresent_used own owner, if_neg (by decide)] at gate
    refine ⟨fun stopping => ?_, fun runs short => ?_⟩
    · exact requestFrame_no serving (served.trans (State.flowStream_refused (s := s.used se) hold (gate.trans (if_pos stopping))))
    · exact requestFrame_no serving (served.trans (State.flowStream_refused (s := s.used se) hold
        (gate.trans ((if_neg runs).trans (if_pos short)))))
  · simp [scanReady]
  · obtain ⟨session, same⟩ := s.touchForFlow_eq i
    rw [same] at served ⊢
    exact requestFrame_no serving (served.trans (if_neg moved))
  · exact requestFrame_ok serving (held.trans (if_pos flow))
  · exact requestFrame_no serving (held.trans (if_neg still))

/-! ## STREAM CLEAR -/

theorem resumeBytes_of_zero {st : Stream} (band : st.nextBand = 0) (page : st.page = 0) : st.resumeBytes = [0, 0, 0, 0] := by
  rw [Stream.resumeBytes, band, page]
  decide

theorem number_of_document {s : State} {n : Nat} {d : Document} (present : s.document n = some d) : d.number = n := by
  have found := List.find?_some present
  simpa using found

namespace State

variable {s : State} {i : Fin 4} {n : Nat} {d : Document}

/-- A stream that may be cleared: halted, and its halves EMPTY. -/
theorem clearRequest_busy (busy : (s.stream i).state ≠ .halt ∨ (s.stream i).half0.state ≠ .empty ∨
      (s.stream i).half1.state ≠ .empty) :
    s.clearRequest i = refuse s .busy := by
  refine if_neg fun ⟨halt, done⟩ => ?_
  rw [Stream.haltFillDone, Bool.and_eq_true, beq_iff_eq, beq_iff_eq] at done
  obtain ⟨empty0, empty1⟩ := done
  rcases busy with h | h | h
  exacts [h halt, h empty0, h empty1]

theorem clearRequest_halted (halt : (s.stream i).state = .halt) (empty0 : (s.stream i).half0.state = .empty)
    (empty1 : (s.stream i).half1.state = .empty) (named : (s.stream i).document = some n) : s.clearRequest i =
      match s.document n with
      | none => refuse s .noDocument
      | some _ => okWith (s.clearStream i n) ((s.clearStream i n).stream i).resumeBytes := by
  have done : (s.stream i).haltFillDone = true := by rw [Stream.haltFillDone, empty0, empty1]; rfl
  rw [clearRequest, if_pos ⟨halt, done⟩, named, Option.bind_some]
  cases present : s.document n with
  | none => rfl
  | some d =>
    dsimp only
    rw [number_of_document present]

end State

/-- Settles O40. -/
theorem clearRestartsTheStream : Obligations.ClearRestartsTheStream := by
  intro s i n d serving st cleared
  have served : serveStreamClear (be 1 i.val) s = s.clearRequest i := withStream_byte s i s.clearRequest
  refine ⟨fun busy => requestFrame_no serving (served.trans (State.clearRequest_busy busy)), fun halt empty0 empty1 named => ?_⟩
  have takes := served.trans (State.clearRequest_halted halt empty0 empty1 named)
  refine ⟨fun gone => ?_, fun present release => ?_, fun m j present encode own listed => ?_⟩
  · rw [gone] at takes
    exact requestFrame_no serving takes
  · have keeps : s.clearStream i n = s.setStream i cleared := if_neg (by show st.kind ≠ _; rw [release]; decide)
    rw [present, keeps] at takes
    dsimp only at takes
    rw [State.stream_setStream_same] at takes
    exact requestFrame_ok serving takes
  · have restarts : s.clearStream i n = ((s.changeDocument n fun x => { x with
        key := Config.randomKey s.draws, pages := 0, bands := 0, colour := false, sizeClass := j.sizeClass }).setDraws
          (s.draws + 1)).setStream i { cleared with
            nextBand := 0, page := 0, bands := 0, pages := 0, seqBit := false, pageStart := true, pageClass := j.sizeClass } := by
      rw [State.clearStream]
      dsimp only
      rw [if_pos (show (s.stream i).cleared.kind = some .encode from encode), State.streamJob_eq own listed]
      rfl
    rw [present, restarts] at takes
    dsimp only at takes
    rw [State.stream_setStream_same, resumeBytes_of_zero rfl rfl] at takes
    exact requestFrame_ok serving takes

end Sys2Proof.Machine
end

section
/-! PROOFS. The intake on the two ports: the bytes of a half, and the effect of a frame that is not stored. -/

namespace Sys2Proof.Machine

/-! ## Bytes written and read back -/

namespace Memory

/-- Bytes written in the pool read back. -/
theorem readBytes_writeBytes {m : Memory} (w : m.wf = true) {a : Nat} {bs : List Byte} (inside : a + bs.length ≤ poolBytes) :
    (m.writeBytes a bs).readBytes a bs.length = bs := by
  have head : ∀ {m : Memory} (_ : m.wf = true) {a : Nat} {b : Byte} {bs : List Byte} (_ : a < poolBytes),
      ((m.write a b).writeBytes (a + 1) bs).read a = b := by
    intro m w a b bs fits
    rw [read_writeBytes_outside (wf_write w a b) bs (Or.inl (Nat.lt_succ_self a)), read_write w fits, if_pos rfl]
  induction bs generalizing m a with
  | nil => rfl
  | cons b bs ih =>
    rw [List.length_cons] at inside
    show ((m.write a b).writeBytes (a + 1) bs).read a :: ((m.write a b).writeBytes (a + 1) bs).readBytes (a + 1) bs.length = _
    rw [head w (by omega), ih (wf_write w a b) (by omega)]

theorem SameOutside.refl (m : Memory) (a n : Nat) : m.SameOutside m a n := fun _ _ => rfl

theorem SameOutside.trans {m m' m'' : Memory} {a n : Nat} (first : m.SameOutside m' a n) (second : m'.SameOutside m'' a n) :
    m.SameOutside m'' a n := fun k outside => (second k outside).trans (first k outside)

theorem sameOutside_writeBytes {m : Memory} (w : m.wf = true) (a : Nat) {bs : List Byte} {n : Nat} (fits : bs.length ≤ n) :
    m.SameOutside (m.writeBytes a bs) a n := fun k outside => read_writeBytes_outside w bs (by omega)

end Memory

/-! ## The halves of a stream's window -/

namespace State

variable {s : State} {st : Stream} {b : Bool}

theorem zeroHalf_eq (s : State) (st : Stream) (b : Bool) : ∃ mem, s.zeroHalf st b = s.setMem mem ∧
    (s.pool.mem.wf = true → mem.wf = true) ∧
    ∀ k, mem.read k = if st.halfAddress b ≤ k ∧ k < st.halfAddress b + st.halfSize then 0 else s.pool.mem.read k := by
  unfold zeroHalf Stream.halfAddress Stream.halfSize
  cases st.window with
  | none =>
    refine ⟨s.pool.mem, rfl, id, fun k => ?_⟩
    exact (if_neg (by simp)).symm
  | some w => exact ⟨_, rfl, fun canonical => Memory.wf_zeroBlocks canonical _, fun k => Memory.read_zero _ _ _ k⟩

/-- A half written after its zeros: the bytes, the zeros beyond them, and nothing elsewhere. -/
theorem storeArrival_eq (s : State) (i : Fin 4) (bytes : List Byte) (canonical : s.MemoryCanonical)
    (fits : bytes.length ≤ (s.stream i).halfSize) : ∃ mem, s.storeArrival i bytes = s.setMem mem ∧
      let st := s.stream i
      let addr := st.halfAddress st.intake
      (st.HalfInPool st.intake → mem.readBytes addr bytes.length = bytes) ∧
      (∀ a, addr + bytes.length ≤ a → a < addr + st.halfSize → mem.read a = 0) ∧
      Memory.SameOutside s.pool.mem mem addr st.halfSize := by
  obtain ⟨mem, zeroed, wf, read⟩ := s.zeroHalf_eq (s.stream i) (s.stream i).intake
  have clean : mem.wf = true := wf canonical
  refine ⟨mem.writeBytes ((s.stream i).halfAddress (s.stream i).intake) bytes, ?_, fun inside => ?_, fun a past within => ?_,
    fun k outside => ?_⟩
  · rw [storeArrival, zeroed]; rfl
  · refine Memory.readBytes_writeBytes clean ?_
    have pool : (s.stream i).halfAddress (s.stream i).intake + (s.stream i).halfSize ≤ poolBytes := inside
    omega
  · rw [Memory.read_writeBytes_outside clean bytes (Or.inr past), read, if_pos ⟨by omega, within⟩]
  · rw [Memory.read_writeBytes_outside clean bytes (by omega), read, if_neg (by omega)]

/-! ## A frame that is not stored -/

theorem clearArrival_eq (s : State) (i : Fin 4) (writing : Bool) : ∃ mem, s.clearArrival i writing = s.setMem mem ∧
    let st := s.stream i
    let addr := st.halfAddress st.intake
    (writing = false → mem = s.pool.mem) ∧ Memory.SameOutside s.pool.mem mem addr st.halfSize ∧
      (writing = true → ∀ k, addr ≤ k → k < addr + st.halfSize → mem.read k = 0) := by
  cases writing with
  | false => exact ⟨s.pool.mem, rfl, fun _ => rfl, Memory.SameOutside.refl _ _ _, fun h => nomatch h⟩
  | true =>
    obtain ⟨mem, zeroed, _, read⟩ := s.zeroHalf_eq (s.stream i) (s.stream i).intake
    refine ⟨mem, zeroed, fun h => (nomatch h), fun k outside => ?_, fun _ k from_ within => ?_⟩
    · rw [read, if_neg (by omega)]
    · rw [read, if_pos ⟨from_, within⟩]

/-- What a count on a stream's record, or its halt, leaves: the jobs, the documents, the other streams, the answers, the bytes. -/
structure StreamWork (i : Fin 4) (s u : State) : Prop where
  jobs : u.jobs = s.jobs
  store : u.store = s.store
  others : ∀ k, k ≠ i → u.stream k = s.stream k
  images : s.SameBesidesImages u
  scan : s.ports.scan = none → u.ports.scan = none
  img : s.ports.img = none → u.ports.img = none
  scanAnswer : u.ports.scanAnswer = s.ports.scanAnswer
  imgAnswer : u.ports.imgAnswer = s.ports.imgAnswer
  mem : u.pool.mem = s.pool.mem

theorem StreamWork.refl (i : Fin 4) (s : State) : StreamWork i s s :=
  ⟨rfl, rfl, fun _ _ => rfl, .refl s, id, id, rfl, rfl, rfl⟩

theorem StreamWork.trans {i : Fin 4} {t u : State} (first : StreamWork i s t) (second : StreamWork i t u) : StreamWork i s u where
  jobs := second.jobs.trans first.jobs
  store := second.store.trans first.store
  others k other := (second.others k other).trans (first.others k other)
  images := first.images.trans second.images
  scan none_ := second.scan (first.scan none_)
  img none_ := second.img (first.img none_)
  scanAnswer := second.scanAnswer.trans first.scanAnswer
  imgAnswer := second.imgAnswer.trans first.imgAnswer
  mem := second.mem.trans first.mem

theorem streamWork_changeStream (s : State) (i : Fin 4) (f : Stream → Stream) : StreamWork i s (s.changeStream i f) :=
  ⟨rfl, rfl, fun _ other => stream_setStream_other _ _ other, changeStream_images i f, id, id, rfl, rfl, rfl⟩

/-- A halt changes of the ports only what is being written. -/
theorem ports_halt (s : State) (i : Fin 4) (cause : HaltCause) :
    (s.halt i cause).ports = s.ports ∨ (s.halt i cause).ports = s.ports.stopWriting i := by
  cases may : (s.stream i).mayHalt cause with
  | false => exact Or.inl (by rw [halt_eq_self may])
  | true =>
    refine Or.inr ?_
    unfold halt haltStream
    rw [if_pos may, if_pos may]
    rfl

theorem streamWork_halt (s : State) (i : Fin 4) (cause : HaltCause) : StreamWork i s (s.halt i cause) := by
  obtain ⟨jobs, store, mem, _, _⟩ := halt_jobs_store (s := s) i cause
  refine { jobs, store, mem, others := fun k other => halt_stream_other cause other, images := halt_images i cause,
           scan := fun none_ => ?_, img := fun none_ => ?_, scanAnswer := ?_, imgAnswer := ?_ }
  all_goals rcases s.ports_halt i cause with same | stopped
  · rw [same]; exact none_
  · rw [stopped, Ports.stopWriting, none_]; rfl
  · rw [same]; exact none_
  · rw [stopped, Ports.stopWriting, none_]; rfl
  · rw [same]
  · rw [stopped]; rfl
  · rw [same]
  · rw [stopped]; rfl

theorem streamWork_checkFailed (s : State) (i : Fin 4) : StreamWork i s (s.checkFailed i) := by
  unfold checkFailed
  dsimp only
  split
  · exact (streamWork_changeStream ..).trans (streamWork_halt ..)
  · exact streamWork_changeStream ..

/-- What a frame that is not stored leaves. -/
structure Unstored (i : Fin 4) (writing : Bool) (s u : State) : Prop where
  jobs : u.jobs = s.jobs
  store : u.store = s.store
  others : ∀ k, k ≠ i → u.stream k = s.stream k
  images : s.SameBesidesImages u
  scan : s.ports.scan = none → u.ports.scan = none
  img : s.ports.img = none → u.ports.img = none
  scanAnswer : u.ports.scanAnswer = s.ports.scanAnswer
  imgAnswer : u.ports.imgAnswer = s.ports.imgAnswer
  unwritten : writing = false → u.pool.mem = s.pool.mem
  outside : Memory.SameOutside s.pool.mem u.pool.mem ((s.stream i).halfAddress (s.stream i).intake) (s.stream i).halfSize
  zeroed : writing = true → ∀ k, (s.stream i).halfAddress (s.stream i).intake ≤ k →
    k < (s.stream i).halfAddress (s.stream i).intake + (s.stream i).halfSize → u.pool.mem.read k = 0

theorem streamWork_notStored (s : State) (i : Fin 4) (writing : Bool) (r : Ruling) :
    StreamWork i (s.clearArrival i writing) (s.notStored i writing r) := by
  cases r with
  | refusedUncounted | stored => exact .refl i _
  | refused | duplicate => exact streamWork_changeStream ..
  | checkFailed => exact streamWork_checkFailed ..
  | halted cause => exact streamWork_halt ..

theorem unstored_notStored (s : State) (i : Fin 4) (writing : Bool) (r : Ruling) :
    Unstored i writing s (s.notStored i writing r) := by
  have work := s.streamWork_notStored i writing r
  obtain ⟨mem, clears, unwritten, outside, zeroed⟩ := s.clearArrival_eq i writing
  rw [clears] at work
  exact { jobs := work.jobs, store := work.store, others := work.others, images := (setPool_images _).trans work.images,
          scan := work.scan, img := work.img, scanAnswer := work.scanAnswer, imgAnswer := work.imgAnswer,
          unwritten := fun still => work.mem.trans (unwritten still), outside := by rw [work.mem]; exact outside,
          zeroed := fun wrote k => by rw [work.mem]; exact zeroed wrote k }

/-! ## What a ruling does to the stream -/

variable {i : Fin 4} {writing : Bool}

theorem notStored_refusedUncounted (s : State) (i : Fin 4) (writing : Bool) :
    (s.notStored i writing .refusedUncounted).stream i = s.stream i ∧ (s.notStored i writing .refusedUncounted).link = s.link := by
  obtain ⟨mem, clears, _⟩ := s.clearArrival_eq i writing
  rw [notStored, clears]
  exact ⟨rfl, rfl⟩

theorem notStored_refused (s : State) (i : Fin 4) (writing : Bool) :
    (s.notStored i writing .refused).stream i = { s.stream i with refused := min 65535 ((s.stream i).refused + 1) } ∧
      (s.notStored i writing .refused).link = s.link ∧ (s.notStored i writing .refused).ports = s.ports := by
  obtain ⟨mem, clears, _⟩ := s.clearArrival_eq i writing
  rw [notStored, clears]
  exact ⟨stream_setStream_same .., rfl, rfl⟩

theorem notStored_duplicate (s : State) (i : Fin 4) (writing : Bool) :
    (s.notStored i writing .duplicate).link = s.link ∧ (s.notStored i writing .duplicate).stream i =
      { s.stream i with duplicates := min 65535 ((s.stream i).duplicates + 1), checkErrors := 0 } := by
  obtain ⟨mem, clears, _⟩ := s.clearArrival_eq i writing
  rw [notStored, clears]
  exact ⟨rfl, stream_setStream_same ..⟩

theorem halt_halts {cause : HaltCause} (may : (s.stream i).mayHalt cause = true) :
    ((s.halt i cause).stream i).state = .halt ∧ ((s.halt i cause).stream i).haltCause = some cause := by
  obtain ⟨state, why, _⟩ := enterHalt_state (s.stream i) cause (s.ports.writingInto i)
  rw [halt_stream_same may]
  exact ⟨state, why⟩

theorem mayHalt_of_holdOrFlow {st : Stream} (runs : st.state = .hold ∨ st.state = .flow) (cause : HaltCause) :
    st.mayHalt cause = true := by
  rcases runs with hold | flow
  · simp [Stream.mayHalt, Stream.holdOrFlow, hold]
  · simp [Stream.mayHalt, Stream.holdOrFlow, flow]

theorem notStored_halted (runs : (s.stream i).state = .hold ∨ (s.stream i).state = .flow) (writing : Bool) (cause : HaltCause) :
    ((s.notStored i writing (.halted cause)).stream i).state = .halt ∧
      ((s.notStored i writing (.halted cause)).stream i).haltCause = some cause := by
  obtain ⟨mem, clears, _⟩ := s.clearArrival_eq i writing
  rw [notStored, clears]
  exact halt_halts (mayHalt_of_holdOrFlow runs cause)

theorem notStored_checkFailed (runs : (s.stream i).state = .hold ∨ (s.stream i).state = .flow) (writing : Bool) :
    let u := s.notStored i writing .checkFailed
    ((s.stream i).checkErrors < 2 →
      u.stream i = { s.stream i with checkErrors := (s.stream i).checkErrors + 1 } ∧ u.link = s.link) ∧
    (2 ≤ (s.stream i).checkErrors → (u.stream i).state = .halt ∧ (u.stream i).haltCause = some .check) := by
  obtain ⟨mem, clears, _⟩ := s.clearArrival_eq i writing
  rw [notStored, clears]
  show (_ → ((s.setMem mem).checkFailed i).stream i = _ ∧ _) ∧ (_ → (((s.setMem mem).checkFailed i).stream i).state = _ ∧ _)
  refine ⟨fun few => ?_, fun many => ?_⟩
  · have count : min 3 ((s.stream i).checkErrors + 1) = (s.stream i).checkErrors + 1 := by omega
    have parts : (s.setMem mem).checkFailed i =
        (s.setMem mem).changeStream i fun st => { st with checkErrors := (s.stream i).checkErrors + 1 } := by
      rw [checkFailed, show ((s.setMem mem).stream i).checkErrors = (s.stream i).checkErrors from rfl, count, if_neg (by omega)]
    rw [parts]
    exact ⟨stream_setStream_same .., rfl⟩
  · have count : min 3 ((s.stream i).checkErrors + 1) = 3 := by omega
    have parts : (s.setMem mem).checkFailed i =
        ((s.setMem mem).changeStream i fun st => { st with checkErrors := 3 }).halt i .check := by
      rw [checkFailed, show ((s.setMem mem).stream i).checkErrors = (s.stream i).checkErrors from rfl, count, if_pos rfl]
    rw [parts]
    refine halt_halts (mayHalt_of_holdOrFlow ?_ .check)
    rw [changeStream, stream_setStream_same]
    exact runs

end State

end Sys2Proof.Machine
end

section
/-! PROOFS. Band frames that are not stored (O43) and image frames that are not stored (O45). -/

namespace Sys2Proof.Machine

/-! ## The scan port -/

theorem exec_scanFrameEnd {s : State} (outside : s.resetting = none) (tail : ScanTail) :
    exec (.scanFrameEnd tail) s = .next (s.scanEnd (fun h => scanCheckGood h tail) tail.payload).finish := by
  show Host.Outcome.next (outsideReset s fun s => s.scanEnd (fun h => scanCheckGood h tail) tail.payload) = _
  rw [outsideReset_out outside]

theorem exec_scanGapExpiry {s : State} (outside : s.resetting = none) :
    exec .scanGapExpiry s = .next (s.scanEnd (fun _ => false) []).finish := by
  show Host.Outcome.next (outsideReset s fun s => s.scanEnd (fun _ => false) []) = _
  rw [outsideReset_out outside]

namespace State

variable {s : State} {a : ScanArrival} {i : Fin 4}

/-- The scan port after an arrival has ended and is answered. -/
def scanEnded (s : State) (x : Answer) : State := s.setPorts { s.ports with scan := none, scanAnswer := some x }

/-- The end of an arrival on the scan port that stores nothing. -/
def scanAnswered (s : State) (i : Fin 4) (a : ScanArrival) (r : Ruling) : State := (s.scanEnded r.answer).notStored i a.writing r

theorem scanEnd_unnamed (arriving : s.ports.scan = some a) (above : 4 ≤ a.header.stream.toNat) (good : ScanHeader → Bool)
    (payload : List Byte) : s.scanEnd good payload = s.setPorts { s.ports with scan := none, scanAnswer := some .refuse } := by
  have unknown : State.streamIndex a.header.stream.toNat = none := dif_neg (Nat.not_lt.mpr above)
  rw [scanEnd, arriving]
  dsimp only
  rw [scanAnswerOf, unknown]

theorem scanEnd_named (arriving : s.ports.scan = some a) (named : i.val = a.header.stream.toNat) (good : ScanHeader → Bool)
    (payload : List Byte) : s.scanEnd good payload = (s.scanEnded
      ((s.stream i).ruleScan a (good a.header)).answer).scanRuled i a (good a.header) payload := by
  have known : State.streamIndex a.header.stream.toNat = some i := by
    rw [← named]; exact dif_pos i.isLt
  rw [scanEnd, arriving]
  dsimp only
  rw [scanAnswerOf, known]
  rfl

theorem scanRuled_unstored {good : Bool} {r : Ruling} (rule : (s.stream i).ruleScan a good = r) (unstored : r ≠ .stored)
    (payload : List Byte) : s.scanRuled i a good payload = s.notStored i a.writing r := by
  rw [scanRuled, rule]
  cases r with
  | stored => exact absurd rfl unstored
  | refusedUncounted | refused | checkFailed | halted | duplicate => rfl

theorem scanEnd_unstored (arriving : s.ports.scan = some a) (named : i.val = a.header.stream.toNat) {good : ScanHeader → Bool}
    {r : Ruling} (rule : (s.stream i).ruleScan a (good a.header) = r) (unstored : r ≠ .stored) (payload : List Byte) :
    s.scanEnd good payload = s.scanAnswered i a r := by
  rw [scanEnd_named arriving named, rule]
  exact scanRuled_unstored (s := s.scanEnded r.answer) rule unstored payload

/-- What the statement says of every band frame that is not stored. -/
theorem scanAnswered_leaves (s : State) (i : Fin 4) (a : ScanArrival) (r : Ruling) :
    let u := s.scanAnswered i a r
    let st := s.stream i
    let addr := st.halfAddress st.intake
    u.ports.scan = none ∧ u.ports.scanAnswer = some r.answer ∧ u.ports.imgAnswer = s.ports.imgAnswer ∧
      u.jobs = s.jobs ∧ u.store = s.store ∧ (∀ k, k ≠ i → u.stream k = s.stream k) ∧ s.SameBesidesImages u ∧
      (a.writing = false → u.pool.mem = s.pool.mem) ∧ Memory.SameOutside s.pool.mem u.pool.mem addr st.halfSize ∧
      (a.writing = true → st.HalfInPool st.intake → ∀ k, addr ≤ k → k < addr + st.halfSize → u.pool.mem.read k = 0) := by
  have leaves := (s.scanEnded r.answer).unstored_notStored i a.writing r
  exact ⟨leaves.scan rfl, leaves.scanAnswer, leaves.imgAnswer, leaves.jobs, leaves.store, leaves.others,
    (setPorts_images _).trans leaves.images, leaves.unwritten, leaves.outside, fun wrote _ => leaves.zeroed wrote⟩

end State

/-! ## The rows of R158 -/

namespace Stream

variable {st : Stream} {a : ScanArrival}

theorem ruleScan_idle (idle : st.state = .idle) (good : Bool) : st.ruleScan a good = .refusedUncounted := if_pos idle

theorem ruleScan_closed (closed : st.state = .hold ∨ st.state = .halt ∨ st.state = .done ∨ (st.state = .flow ∧ st.lastBand = true))
    (good : Bool) : st.ruleScan a good = .refused := by
  rcases closed with h | h | h | ⟨h, last⟩ <;> simp [ruleScan, h]
  exact fun open_ => absurd last (by rw [open_]; decide)

variable (flow : st.state = .flow) (more : st.lastBand = false)
include flow more

theorem ruleScan_bad : st.ruleScan a false = .checkFailed := by simp [ruleScan, flow, more]

theorem ruleScan_long (long : st.halfSize < a.header.length.toNat) : st.ruleScan a true = .halted .oversize := by
  simp [ruleScan, flow, more, long]

/-- The rows from the stream's kind on. -/
theorem ruleScan_fits (fits : a.header.length.toNat ≤ st.halfSize) : st.ruleScan a true =
    if st.kind ≠ some .encode then .refused
    else if flagSeq a.header.flags ≠ st.seqBit then .duplicate
    else if a.writing = false then .halted .overrun
    else if Config.maxNumber ≤ st.bands then .halted .oversize
    else .stored := by
  have room : ¬ st.halfSize < a.header.length.toNat := Nat.not_lt.mpr fits
  simp [ruleScan, flow, more, room]

end Stream

/-- Settles O43. -/
theorem otherBandFramesLeaveNothing : Obligations.OtherBandFramesLeaveNothing := by
  intro s a tail outside arriving
  refine ⟨fun above => ⟨?_, ?_⟩, ?_⟩
  · rw [exec_scanFrameEnd outside, State.scanEnd_unnamed arriving above]
  · rw [exec_scanGapExpiry outside, State.scanEnd_unnamed arriving above]
  · intro i named st addr good answers counted halted
    have ends : ∀ r, st.ruleScan a good = r → r ≠ .stored →
        exec (.scanFrameEnd tail) s = .next (s.scanAnswered i a r).finish := by
      intro r rule unstored
      rw [exec_scanFrameEnd outside, State.scanEnd_unstored arriving named rule unstored]
    have expires : ∀ r, st.ruleScan a false = r → r ≠ .stored → exec .scanGapExpiry s = .next (s.scanAnswered i a r).finish := by
      intro r rule unstored
      rw [exec_scanGapExpiry outside, State.scanEnd_unstored (good := fun _ => false) arriving named rule unstored]
    have answered : ∀ r, st.ruleScan a good = r → r ≠ .stored → answers r.answer (s.scanAnswered i a r) := fun r rule unstored =>
      ⟨ends r rule unstored, s.scanAnswered_leaves i a r⟩
    have counts : counted (s.scanAnswered i a .refused) := by
      obtain ⟨stream, link, ports⟩ := (s.scanEnded .refuse).notStored_refused i a.writing
      have img := congrArg Ports.img ports
      exact ⟨stream, link, img⟩
    have halts : st.state = .flow → ∀ cause, halted cause (s.scanAnswered i a (.halted cause)) := fun flow cause =>
      State.notStored_halted (s := s.scanEnded .refuse) (Or.inr flow) a.writing cause
    refine ⟨fun idle => ?_, fun closed => ?_, fun flow more => ⟨fun bad => ?_, fun whole long => ?_, fun whole fits other => ?_,
      fun whole fits encode => ⟨fun repeated => ?_, fun fresh late => ?_, fun fresh wrote full => ?_⟩⟩⟩
    · have rule := Stream.ruleScan_idle (a := a) idle
      exact ⟨_, answered .refusedUncounted (rule good) (by decide), expires .refusedUncounted (rule false) (by decide),
        (s.scanEnded .refuse).notStored_refusedUncounted i a.writing⟩
    · have rule := Stream.ruleScan_closed (a := a) closed
      exact ⟨_, answered .refused (rule good) (by decide), expires .refused (rule false) (by decide), counts⟩
    · have rule := Stream.ruleScan_bad (a := a) flow more
      exact ⟨_, answered .checkFailed (by rw [bad]; exact rule) (by decide), expires .checkFailed rule (by decide),
        State.notStored_checkFailed (s := s.scanEnded .refuseCheck) (Or.inr flow) a.writing⟩
    · have rule := Stream.ruleScan_long (a := a) flow more long
      exact ⟨_, answered (.halted .oversize) (by rw [whole]; exact rule) (by decide), halts flow _⟩
    all_goals have rows := Stream.ruleScan_fits (a := a) flow more fits
    · rw [if_pos other] at rows
      exact ⟨_, answered .refused (by rw [whole]; exact rows) (by decide), counts⟩
    · rw [if_neg (not_not.mpr encode), if_pos repeated] at rows
      exact ⟨_, answered .duplicate (by rw [whole]; exact rows) (by decide), (s.scanEnded .accept).notStored_duplicate i a.writing⟩
    · rw [if_neg (not_not.mpr encode), if_neg (not_not.mpr fresh), if_pos late] at rows
      exact ⟨_, answered (.halted .overrun) (by rw [whole]; exact rows) (by decide), halts flow _⟩
    · rw [if_neg (not_not.mpr encode), if_neg (not_not.mpr fresh), if_neg (by rw [wrote]; decide),
        if_pos (show Config.maxNumber ≤ st.bands from full)] at rows
      exact ⟨_, answered (.halted .oversize) (by rw [whole]; exact rows) (by decide), halts flow _⟩

/-! ## The image link -/

theorem exec_imgFrameEnd {s : State} (outside : s.resetting = none) (tail : ImgTail) :
    exec (.imgFrameEnd tail) s = .next (s.imgEnd (fun h => imgCheckGood h tail) tail).finish := by
  show Host.Outcome.next (outsideReset s fun s => s.imgEnd (fun h => imgCheckGood h tail) tail) = _
  rw [outsideReset_out outside]

theorem exec_imgGapExpiry {s : State} (outside : s.resetting = none) :
    exec .imgGapExpiry s = .next (s.imgEnd (fun _ => false) .stopBitError).finish := by
  show Host.Outcome.next (outsideReset s fun s => s.imgEnd (fun _ => false) .stopBitError) = _
  rw [outsideReset_out outside]

theorem Stream.releases_iff (st : Stream) (n : Nat) : st.releases n = true ↔ st.kind = some .release ∧ st.document = some n := by
  rw [Stream.releases, Bool.and_eq_true, beq_iff_eq, beq_iff_eq]

namespace State

variable {s : State} {a : ImgArrival} {i : Fin 4}

/-- The image link after an arrival has ended and is answered. -/
def imgEnded (s : State) (x : Answer) : State := s.setPorts { s.ports with img := none, imgAnswer := some x }

/-- The end of an arrival on the image link that stores nothing. -/
def imgAnswered (s : State) (i : Fin 4) (a : ImgArrival) (r : Ruling) : State := (s.imgEnded r.answer).notStored i a.writing r

theorem imgEnd_unrouted (arriving : s.ports.img = some a) (unrouted : s.imgRoute a = none) (good : ImgHeader → Bool)
    (tail : ImgTail) : s.imgEnd good tail = s.imgEnded .refuse := by
  rw [imgEnd, arriving]
  dsimp only
  rw [imgAnswerOf, unrouted]
  rfl

theorem imgEnd_routed (arriving : s.ports.img = some a) (routed : s.imgRoute a = some i) (good : ImgHeader → Bool)
    (tail : ImgTail) : s.imgEnd good tail =
      (s.imgEnded ((s.stream i).ruleImg a (good a.header)).answer).imgRuled i a (good a.header) tail := by
  rw [imgEnd, arriving]
  dsimp only
  rw [imgAnswerOf, routed]
  rfl

theorem imgRuled_unstored {good : Bool} {r : Ruling} (rule : (s.stream i).ruleImg a good = r) (unstored : r ≠ .stored)
    (tail : ImgTail) : s.imgRuled i a good tail = s.notStored i a.writing r := by
  rw [imgRuled, rule]
  cases r with
  | stored => exact absurd rfl unstored
  | refusedUncounted | refused | checkFailed | halted | duplicate => rfl

theorem imgEnd_unstored (arriving : s.ports.img = some a) (routed : s.imgRoute a = some i) {good : ImgHeader → Bool} {r : Ruling}
    (rule : (s.stream i).ruleImg a (good a.header) = r) (unstored : r ≠ .stored) (tail : ImgTail) :
    s.imgEnd good tail = s.imgAnswered i a r := by
  rw [imgEnd_routed arriving routed, rule]
  exact imgRuled_unstored (s := s.imgEnded r.answer) rule unstored tail

/-- What the statement says of every image frame that is not stored. -/
theorem imgAnswered_leaves (s : State) (i : Fin 4) (a : ImgArrival) (r : Ruling) :
    let u := s.imgAnswered i a r
    let st := s.stream i
    let addr := st.halfAddress st.intake
    u.ports.img = none ∧ u.ports.imgAnswer = some r.answer ∧ u.ports.scanAnswer = s.ports.scanAnswer ∧
      u.jobs = s.jobs ∧ u.store = s.store ∧ (∀ k, k ≠ i → u.stream k = s.stream k) ∧ s.SameBesidesImages u ∧
      (a.writing = false → u.pool.mem = s.pool.mem) ∧ Memory.SameOutside s.pool.mem u.pool.mem addr st.halfSize ∧
      (a.writing = true → st.HalfInPool st.intake → ∀ k, addr ≤ k → k < addr + st.halfSize → u.pool.mem.read k = 0) := by
  have leaves := (s.imgEnded r.answer).unstored_notStored i a.writing r
  exact ⟨leaves.img rfl, leaves.imgAnswer, leaves.scanAnswer, leaves.jobs, leaves.store, leaves.others,
    (setPorts_images _).trans leaves.images, leaves.unwritten, leaves.outside, fun wrote _ => leaves.zeroed wrote⟩

theorem imgRoute_unbound (unbound : ∀ i : Fin 4, a.stream = some i → (s.stream i).kind ≠ some .release ∨
    (s.stream i).document ≠ some a.header.document.toNat) : s.imgRoute a = none := by
  cases named : a.stream with
  | none => rw [imgRoute, named]; rfl
  | some i =>
    have other : (s.stream i).releases a.header.document.toNat = false := by
      refine Bool.eq_false_iff.mpr fun bound => ?_
      obtain ⟨kind, document⟩ := (Stream.releases_iff _ _).mp bound
      rcases unbound i named with h | h
      · exact h kind
      · exact h document
    rw [imgRoute, named, Option.filter_some, if_neg (by rw [other]; decide)]

theorem imgRoute_bound (named : a.stream = some i) (kind : (s.stream i).kind = some .release)
    (document : (s.stream i).document = some a.header.document.toNat) : s.imgRoute a = some i := by
  rw [imgRoute, named, Option.filter_some, if_pos ((Stream.releases_iff _ _).mpr ⟨kind, document⟩)]

end State

/-! ## The rows of R161 -/

namespace Stream

variable {st : Stream} {a : ImgArrival}

theorem ruleImg_closed (closed : st.state = .halt ∨ st.state = .done) (good : Bool) : st.ruleImg a good = .refused := by
  rcases closed with h | h <;> simp [ruleImg, h]

variable (runs : st.state = .hold ∨ st.state = .flow)
include runs

theorem ruleImg_runs (good : Bool) : st.ruleImg a good =
    if good = false then .checkFailed
    else if st.halfSize < a.header.length.toNat then .halted .oversize
    else if a.header.band.toNat + 1 = st.nextBand then .duplicate
    else if a.header.band.toNat ≠ st.nextBand then .halted .sequence
    else if st.state = .hold ∨ st.lastBand = true ∨ a.writing = false then .refused
    else .stored := by
  have before : 0 < st.nextBand ∧ a.header.band.toNat = st.nextBand - 1 ↔ a.header.band.toNat + 1 = st.nextBand := by omega
  have open_ : ¬ st.state = .idle := by rcases runs with h | h <;> rw [h] <;> decide
  have going : ¬ (st.state = .halt ∨ st.state = .done) := by rcases runs with h | h <;> rw [h] <;> decide
  rw [ruleImg, if_neg open_, if_neg going]
  simp only [before, Bool.not_eq_true']

end Stream

/-- Settles O45. -/
theorem otherImageFramesLeaveNothing : Obligations.OtherImageFramesLeaveNothing := by
  intro s a tail outside arriving
  refine ⟨fun unbound => ⟨?_, ?_⟩, ?_⟩
  · rw [exec_imgFrameEnd outside, State.imgEnd_unrouted arriving (State.imgRoute_unbound unbound)]; rfl
  · rw [exec_imgGapExpiry outside, State.imgEnd_unrouted arriving (State.imgRoute_unbound unbound)]; rfl
  · intro i named kind document st addr good answers counted halted
    have routed := State.imgRoute_bound named kind document
    have expires : ∀ r, st.ruleImg a false = r → r ≠ .stored → exec .imgGapExpiry s = .next (s.imgAnswered i a r).finish := by
      intro r rule unstored
      rw [exec_imgGapExpiry outside, State.imgEnd_unstored (good := fun _ => false) arriving routed rule unstored]
    have answered : ∀ r, st.ruleImg a good = r → r ≠ .stored → answers r.answer (s.imgAnswered i a r) := by
      intro r rule unstored
      refine ⟨?_, s.imgAnswered_leaves i a r⟩
      rw [exec_imgFrameEnd outside, State.imgEnd_unstored arriving routed rule unstored]
    have counts : counted (s.imgAnswered i a .refused) := by
      obtain ⟨stream, link, ports⟩ := (s.imgEnded .refuse).notStored_refused i a.writing
      have scan := congrArg Ports.scan ports
      exact ⟨stream, link, scan⟩
    refine ⟨fun closed => ?_, fun runs => ⟨fun bad => ?_, fun whole long => ?_, fun whole fits =>
      ⟨fun repeated => ?_, fun other apart => ?_, fun next closed => ?_⟩⟩⟩
    · have rule := Stream.ruleImg_closed (a := a) closed
      exact ⟨_, answered .refused (rule good) (by decide), expires .refused (rule false) (by decide), counts⟩
    all_goals have rows := Stream.ruleImg_runs (a := a) runs
    · have rule := (rows false).trans (if_pos rfl)
      exact ⟨_, answered .checkFailed (by rw [bad]; exact rule) (by decide), expires .checkFailed rule (by decide),
        State.notStored_checkFailed (s := s.imgEnded .refuseCheck) runs a.writing⟩
    all_goals have halts := fun cause => State.notStored_halted (s := s.imgEnded .refuse) runs a.writing cause
    all_goals have rule := (rows good).trans (if_neg (by rw [whole]; decide))
    · rw [if_pos long] at rule
      exact ⟨_, answered (.halted .oversize) rule (by decide), halts .oversize⟩
    all_goals rw [if_neg (Nat.not_lt.mpr fits)] at rule
    · rw [if_pos repeated] at rule
      exact ⟨_, answered .duplicate rule (by decide), (s.imgEnded .accept).notStored_duplicate i a.writing⟩
    · rw [if_neg other, if_pos apart] at rule
      exact ⟨_, answered (.halted .sequence) rule (by decide), halts .sequence⟩
    · rw [if_neg (by omega), if_neg (not_not.mpr next), if_pos closed] at rule
      exact ⟨_, answered .refused rule (by decide), counts⟩

end Sys2Proof.Machine
end

section
/-! PROOFS. Band frames that are stored (O42) and image frames that are stored (O44). -/

namespace Sys2Proof.Machine

namespace State

variable {s : State} {i : Fin 4}

/-! ## An arrival that is written as it comes -/

theorem writeArrival_frame (s : State) (i : Fin 4) (n : Nat) : let u := s.writeArrival i n
    u.ports = s.ports ∧ u.pool.wipe = s.pool.wipe ∧ u.streams = s.streams ∧ u.jobs = s.jobs ∧ u.store = s.store ∧
      u.link = s.link ∧ s.SameBesidesImages u :=
  ⟨rfl, rfl, rfl, rfl, rfl, rfl, (writeHalf_images _ _ _).trans (setDraws_images _)⟩

theorem sameOutside_writeArrival (canonical : s.MemoryCanonical) {n : Nat} (fits : n ≤ (s.stream i).halfSize) :
    Memory.SameOutside s.pool.mem (s.writeArrival i n).pool.mem ((s.stream i).halfAddress (s.stream i).intake)
      (s.stream i).halfSize :=
  Memory.sameOutside_writeBytes canonical _ (by rw [arrivingBytes, List.length_map, List.length_range]; exact fits)

/-! ## The job and the document of a stored band -/

theorem runJob_eq_setJobs (s : State) (i : Fin 4) : s.runJob i = s.setJobs (s.runJob i).jobs := by
  unfold runJob
  split <;> rfl

theorem job_runJob_own {n : Nat} {j : Job} (named : (s.stream i).job = some n) (present : s.job n = some j) :
    (s.runJob i).job n = some (if j.state = .opened then { j with state := .running } else j) := by
  have changed := s.job_changeJob n (fun j => if j.state = .opened then { j with state := .running } else j) n
  rw [if_pos rfl, present] at changed
  rw [runJob, named]
  exact changed

theorem job_runJob_other {m : Nat} (other : (s.stream i).job ≠ some m) : (s.runJob i).job m = s.job m := by
  unfold runJob
  split
  · rfl
  · next n named =>
    rw [job_changeJob, if_neg]
    rintro rfl
    exact other named

/-- A document record changed, its number kept. -/
theorem document_changeDocument {f : Document → Document} (keeps : ∀ d, (f d).number = d.number) (n m : Nat) :
    (s.changeDocument n f).document m = if m = n then (s.document m).map f else s.document m := by
  have each : ∀ d : Document, (if d.number = n then f d else d).number = d.number := by
    intro d; split
    · exact keeps d
    · rfl
  show (s.store.docs.map fun d => if d.number = n then f d else d).find? (fun d => d.number == m) = _
  rw [List.find?_map]
  have same : ((fun d : Document => d.number == m) ∘ fun d => if d.number = n then f d else d) = fun d => d.number == m :=
    funext fun d => by rw [Function.comp, each]
  rw [same]
  show (s.document m).map _ = _
  cases found : s.document m with
  | none => exact (ite_self _).symm
  | some d =>
    have number := number_of_document found
    rw [Option.map_some, number]
    split <;> rfl

/-! ## What is stored -/

/-- A stored band: its bytes, its stream record, its document's marks, and its job. -/
theorem scanStored_parts {mem : Memory} {payload : List Byte} (bytes : s.storeArrival i payload = s.setMem mem) (h : ScanHeader) :
    ∃ store, s.scanStored i h payload = (((s.setMem mem).setStream i ((s.stream i).storedScan h)).setStore store).runJob i ∧
      ∀ d x, (s.stream i).document = some d → s.document d = some x →
        store.docs.find? (fun y => y.number == d) = some (x.withBand ((s.stream i).pageStart && !(s.stream i).stored) h) := by
  unfold scanStored
  dsimp only
  rw [bytes]
  cases document : (s.stream i).document with
  | none => exact ⟨s.store, rfl, fun d x named => nomatch named⟩
  | some n =>
    refine ⟨_, rfl, fun d x named present => ?_⟩
    obtain rfl : n = d := Option.some.inj named
    have changed := s.document_changeDocument
      (f := fun d => d.withBand ((s.stream i).pageStart && !(s.stream i).stored) h) (fun _ => rfl) n n
    rw [if_pos rfl, present] at changed
    exact changed

end State

/-- The record of a stored band frame, in the words of the statement. -/
theorem Stream.storedScan_eq {st : Stream} {h : ScanHeader} (more : st.lastBand = false) (few : st.bands < 65535) :
    let size := if st.pageStart then h.sizeClass.toNat else st.pageClass
    let last := flagLastOfDocument h.flags
    st.storedScan h = { st.setHalf st.intake { state := .filled, header := some {
          flags := (h.flags &&& 0x1E#8) ||| (if last then 0x04#8 else 0), sizeClass := size, length := h.length.toNat,
          band := 0, page := 0 } } with
        pageClass := size, pageStart := flagLastOfPage h.flags || last, seqBit := !st.seqBit, bands := st.bands + 1,
        checkErrors := 0, intake := st.following st.intake, lastBand := last, idle := if last then none else some 0,
        stored := true } := by
  intro size last
  have marks : storedMarks h.flags = (h.flags &&& 0x1E#8) ||| (if last then 0x04#8 else 0) := by
    show (if last = true then marksOf h.flags ||| 0x04#8 else marksOf h.flags) = _
    cases last with
    | true => rfl
    | false => exact BitVec.or_zero.symm
  have bands : satAdd Config.maxNumber st.bands 1 = st.bands + 1 := Nat.min_eq_right few
  rw [Stream.storedScan, marks, bands, more]
  rfl

theorem Stream.job_storedScan (st : Stream) (h : ScanHeader) : (st.storedScan h).job = st.job := by
  unfold Stream.storedScan
  cases st.intake <;> rfl

theorem Stream.takesScan_iff (st : Stream) (h : ScanHeader) : st.takesScan h = true ↔ st.kind = some .encode ∧ st.state = .flow ∧
    (st.half st.intake).state = .empty ∧ h.length.toNat ≤ st.halfSize := by
  simp only [Stream.takesScan, Bool.and_eq_true, beq_iff_eq, decide_eq_true_iff, and_assoc]

theorem State.scanBegin_taken {s : State} {h : ScanHeader} {i : Fin 4} (free : s.ports.scan = none) (named : i.val = h.stream.toNat)
    (takes : (s.stream i).takesScan h = true) : s.scanBegin h =
      (s.setPorts { s.ports with scan := some { header := h, writing := true } }).writeArrival i h.length.toNat := by
  have known : State.streamIndex h.stream.toNat = some i := by rw [← named]; exact dif_pos i.isLt
  rw [State.scanBegin, if_neg (by rw [free]; decide), known]
  dsimp only
  rw [takes, if_pos rfl]

theorem State.scanBegin_untaken {s : State} {h : ScanHeader} (free : s.ports.scan = none)
    (passes : ∀ i : Fin 4, i.val = h.stream.toNat → (s.stream i).takesScan h = false) : s.scanBegin h =
      s.setPorts { s.ports with scan := some { header := h, writing := false } } := by
  rw [State.scanBegin, if_neg (by rw [free]; decide)]
  by_cases known : h.stream.toNat < 4
  · rw [State.streamIndex, dif_pos known]
    dsimp only
    rw [passes ⟨_, known⟩ rfl, if_neg (by decide)]
  · rw [State.streamIndex, dif_neg known]

/-- The payload of a good band frame has the length its header says, 1 byte or more. -/
theorem length_of_scanCheckGood {h : ScanHeader} {payload : List Byte} {check : BitVec 16}
    (good : scanCheckGood h (.complete payload check) = true) : payload.length = h.length.toNat := by
  simp only [scanCheckGood, Bool.and_eq_true, beq_iff_eq] at good
  exact good.1.1.1

/-- Settles O42. -/
theorem goodBandFramesAreStored : Obligations.GoodBandFramesAreStored := by
  constructor
  · intro s h outside free
    have begins : exec (.scanArrivalBegin h) s = .next (s.scanBegin h).finish := by
      show Host.Outcome.next (outsideReset s fun s => s.scanBegin h) = _
      rw [outsideReset_out outside]
    rw [begins]
    refine ⟨?_, fun untaken => ?_⟩
    · intro i named st kind flow empty fits canonical
      let t : State := s.setPorts { s.ports with scan := some { header := h, writing := true } }
      have writes : s.scanBegin h = t.writeArrival i h.length.toNat :=
        State.scanBegin_taken free named ((Stream.takesScan_iff _ h).mpr ⟨kind, flow, empty, fits⟩)
      obtain ⟨ports, wipe, streams, jobs, store, link, images⟩ := t.writeArrival_frame i h.length.toNat
      exact ⟨_, by rw [writes], ports, State.sameOutside_writeArrival (s := t) canonical fits, wipe, streams, jobs, store, link,
        (setPorts_images _).trans images⟩
    · rw [State.scanBegin_untaken free]
      intro i named
      refine Bool.eq_false_iff.mpr fun takes => ?_
      obtain ⟨kind, flow, empty, fits⟩ := (Stream.takesScan_iff _ h).mp takes
      rcases untaken i named with other | other | other | long
      · exact other kind
      · exact other flow
      · exact other empty
      · exact absurd fits (Nat.not_le.mpr long)
  · intro s i h payload check outside arriving named good canonical st kind flow more fits fresh few inside size last addr
    have length := length_of_scanCheckGood good
    let t := s.scanEnded .accept
    have rule : st.ruleScan { header := h, writing := true } true = .stored := by
      rw [Stream.ruleScan_fits flow more fits, if_neg (not_not.mpr kind), if_neg (not_not.mpr fresh), if_neg (by simp),
        if_neg (show ¬ Config.maxNumber ≤ st.bands from Nat.not_le.mpr few)]
    have ends : exec (.scanFrameEnd (.complete payload check)) s = .next (t.scanStored i h payload).finish := by
      rw [exec_scanFrameEnd outside, State.scanEnd_named arriving named]
      dsimp only
      rw [good, show (s.stream i).ruleScan { header := h, writing := true } true = .stored from rule, State.scanRuled,
        show ((s.scanEnded Ruling.stored.answer).stream i).ruleScan { header := h, writing := true } true = .stored from rule]
      rfl
    obtain ⟨mem, bytes, reads, zeros, same⟩ := t.storeArrival_eq i payload canonical (by rw [length]; exact fits)
    obtain ⟨store, parts, marked⟩ := State.scanStored_parts bytes h
    let v : State := ((t.setMem mem).setStream i (st.storedScan h)).setStore store
    have record : v.stream i = st.storedScan h := State.stream_setStream_same ..
    have job : (v.stream i).job = st.job := by rw [record, Stream.job_storedScan]
    have unmoved := v.runJob_eq_setJobs i
    have parts' : t.scanStored i h payload = v.runJob i := parts
    refine ⟨v.runJob i, ends.trans (by rw [parts']), by rw [unmoved]; rfl, ?_, fun k other => ?_, by rw [unmoved]; exact reads inside,
      by rw [unmoved]; exact zeros, by rw [unmoved]; exact same, fun d x document present => ?_,
      fun n j own listed => State.job_runJob_own (job.trans own) listed,
      fun m other => State.job_runJob_other (by rw [job]; exact other), by rw [unmoved]; rfl, by rw [unmoved]; rfl, ?_⟩
    · rw [unmoved]
      exact record.trans (Stream.storedScan_eq more few)
    · rw [unmoved]
      exact State.stream_setStream_other _ _ other
    · rw [unmoved]
      have first : (st.pageStart && !st.stored) = true ↔ st.pageStart = true ∧ st.stored = false := by simp
      have found : v.document d = some (x.withBand (st.pageStart && !st.stored) h) := marked d x document present
      refine found.trans (congrArg some ?_)
      simp only [Document.withBand, first]
    · rw [unmoved]
      exact (((((setPorts_images _).trans (setPool_images _)).trans (setStream_images i _)).trans (setStore_images _)).trans
        (setJobs_images _))

/-! ## The image link -/

theorem roundUnits_le {p size : Nat} (fits : p ≤ size) (units : 16 ∣ size) : roundUnits p ≤ size := by
  obtain ⟨k, rfl⟩ := units
  rw [roundUnits]
  omega

theorem Stream.halfSize_units (st : Stream) : 16 ∣ st.halfSize := by
  unfold Stream.halfSize
  cases st.window with
  | none => exact Nat.dvd_zero 16
  | some w => exact (show 16 ∣ 64 by decide).trans (Nat.dvd_mul_left 64 w.perHalf)

theorem Stream.takesImg_iff (st : Stream) (h : ImgHeader) : st.takesImg h = true ↔ st.state = .flow ∧
    (st.half st.intake).state = .empty ∧ h.length.toNat ≤ st.halfSize ∧ h.band.toNat = st.nextBand := by
  simp only [Stream.takesImg, Bool.and_eq_true, beq_iff_eq, decide_eq_true_iff, and_assoc]

theorem Stream.job_storedImg (st : Stream) (h : ImgHeader) (tag : BitVec 64) (last : Bool) :
    (st.storedImg h tag last).job = st.job := by
  unfold Stream.storedImg
  cases st.intake <;> rfl

/-- The record of a stored image frame, in the words of the statement. -/
theorem Stream.storedImg_eq {st : Stream} (more : st.lastBand = false) (h : ImgHeader) (tag : BitVec 64) (last : Bool) :
    st.storedImg h tag last = { st.setHalf st.intake { state := .filled, tag := some tag, header := some {
          flags := h.flags, sizeClass := h.sizeClass.toNat, length := h.length.toNat, band := h.band.toNat,
          page := h.page.toNat } } with
        nextBand := min 65535 (st.nextBand + 1), bands := min 65535 (st.bands + 1), checkErrors := 0,
        intake := st.following st.intake, lastBand := last, idle := if last then none else some 0, stored := true } := by
  rw [Stream.storedImg, more, Bool.false_or]
  rfl

/-- A frame is routed to the first stream that releases its document. -/
theorem State.imgStream_first {s : State} {i : Fin 4} {h : ImgHeader} (own : (s.stream i).releases h.document.toNat = true)
    (first : ∀ k, k < i → (s.stream k).releases h.document.toNat = false) : s.imgStream h = some i := by
  unfold State.imgStream fourIndices
  match i with
  | 0 => simp [List.find?, own]
  | 1 => simp [List.find?, own, first 0 (by decide)]
  | 2 => simp [List.find?, own, first 0 (by decide), first 1 (by decide)]
  | 3 => simp [List.find?, own, first 0 (by decide), first 1 (by decide), first 2 (by decide)]

theorem State.imgBegin_taken {s : State} {h : ImgHeader} {i : Fin 4} (free : s.ports.img = none) (routed : s.imgStream h = some i)
    (takes : (s.stream i).takesImg h = true) : s.imgBegin h = (s.setPorts { s.ports with
      img := some { header := h, stream := some i, writing := true } }).writeArrival i (roundUnits h.length.toNat) := by
  rw [State.imgBegin, if_neg (by rw [free]; decide), routed]
  dsimp only
  rw [takes, if_pos rfl]

theorem length_of_imgCheckGood {h : ImgHeader} {ciphertext : List Byte} {tag : BitVec 64} {check : BitVec 16}
    (good : imgCheckGood h (.complete ciphertext tag check) = true) : ciphertext.length = roundUnits h.length.toNat := by
  simp only [imgCheckGood, Bool.and_eq_true, beq_iff_eq] at good
  exact good.1

/-- Settles O44. -/
theorem goodImageFramesAreStored : Obligations.GoodImageFramesAreStored := by
  intro s i h outside canonical st addr kind bound flow fits next
  have room : roundUnits h.length.toNat ≤ st.halfSize := roundUnits_le fits st.halfSize_units
  refine ⟨fun free others empty => ?_, fun ciphertext tag check d arriving more inside good present => ?_⟩
  · have own : (s.stream i).releases h.document.toNat = true := (Stream.releases_iff _ _).mpr ⟨kind, bound⟩
    have routed : s.imgStream h = some i := by
      refine State.imgStream_first own fun k before => Bool.eq_false_iff.mpr fun releases => ?_
      obtain ⟨kind', document'⟩ := (Stream.releases_iff _ _).mp releases
      rcases others k before with other | other
      · exact other kind'
      · exact other (document'.trans bound.symm)
    let t : State := s.setPorts { s.ports with img := some { header := h, stream := some i, writing := true } }
    have writes : s.imgBegin h = t.writeArrival i (roundUnits h.length.toNat) :=
      State.imgBegin_taken free routed ((Stream.takesImg_iff _ h).mpr ⟨flow, empty, fits, next⟩)
    have begins : exec (.imgArrivalBegin h) s = .next (s.imgBegin h).finish := by
      show Host.Outcome.next (outsideReset s fun s => s.imgBegin h) = _
      rw [outsideReset_out outside]
    obtain ⟨ports, _, streams, jobs, store, link, images⟩ := t.writeArrival_frame i (roundUnits h.length.toNat)
    exact ⟨_, by rw [begins, writes], ports, State.sameOutside_writeArrival (s := t) canonical room, streams, jobs, store, link,
      (setPorts_images _).trans images⟩
  · intro last
    have length := length_of_imgCheckGood good
    let t := s.imgEnded .accept
    have rule : st.ruleImg { header := h, stream := some i, writing := true } true = .stored := by
      have open_ : ¬ (st.state = .hold ∨ st.lastBand = true ∨ true = false) := by
        rw [flow, more]; simp
      rw [Stream.ruleImg_runs (Or.inr flow), if_neg (by decide), if_neg (Nat.not_lt.mpr fits)]
      dsimp only
      rw [if_neg (by omega), if_neg (not_not.mpr next), if_neg open_]
    have routed : s.imgRoute { header := h, stream := some i, writing := true } = some i := State.imgRoute_bound rfl kind bound
    have ends : exec (.imgFrameEnd (.complete ciphertext tag check)) s = .next (t.imgStored i h ciphertext tag).finish := by
      rw [exec_imgFrameEnd outside, State.imgEnd_routed arriving routed]
      dsimp only
      rw [good, show (s.stream i).ruleImg _ true = .stored from rule, State.imgRuled,
        show ((s.imgEnded Ruling.stored.answer).stream i).ruleImg _ true = .stored from rule]
      rfl
    obtain ⟨mem, bytes, reads, zeros, same⟩ := t.storeArrival_eq i ciphertext canonical (by rw [length]; exact room)
    have ending : t.isLastBand st.document h.band.toNat = last := by
      rw [State.isLastBand, bound, Option.bind_some, show t.document h.document.toNat = some d from present]
      rfl
    let v : State := (t.setMem mem).setStream i (st.storedImg h tag last)
    have parts : t.imgStored i h ciphertext tag = v.runJob i := by
      rw [State.imgStored]
      rw [bytes, show t.isLastBand (t.stream i).document h.band.toNat = last from ending]
      rfl
    have record : v.stream i = st.storedImg h tag last := State.stream_setStream_same ..
    have job : (v.stream i).job = st.job := by rw [record, Stream.job_storedImg]
    have unmoved := v.runJob_eq_setJobs i
    refine ⟨v.runJob i, ends.trans (by rw [parts]), by rw [unmoved]; rfl, ?_, fun k other => ?_, by rw [unmoved]; exact reads inside,
      by rw [unmoved]; exact zeros, by rw [unmoved]; exact same, fun n j own listed => State.job_runJob_own (job.trans own) listed,
      fun m other => State.job_runJob_other (by rw [job]; exact other), by rw [unmoved]; rfl, by rw [unmoved]; rfl, ?_⟩
    · rw [unmoved]
      exact record.trans (Stream.storedImg_eq more h tag last)
    · rw [unmoved]
      exact State.stream_setStream_other _ _ other
    · rw [unmoved]
      exact ((((setPorts_images _).trans (setPool_images _)).trans (setStream_images i _)).trans (setJobs_images _))

end Sys2Proof.Machine
end

section
/-! PROOFS. The completions of the cipher unit (O46). -/

namespace Sys2Proof.Machine

/-! ## Bytes combined with the keyed stream function -/

theorem combine_combine (key : Key) (d band k : Nat) (xs : List Byte) : combine key d band k (combine key d band k xs) = xs := by
  induction xs generalizing k with
  | nil => rfl
  | cons x xs ih =>
    simp only [combine, ih, BitVec.xor_assoc, BitVec.xor_self, BitVec.xor_zero]

@[simp] theorem length_combine (key : Key) (d band k : Nat) (xs : List Byte) : (combine key d band k xs).length = xs.length := by
  induction xs generalizing k with
  | nil => rfl
  | cons x xs ih => simp [combine, ih]

@[simp] theorem Memory.length_readBytes (m : Memory) (a n : Nat) : (m.readBytes a n).length = n := by
  induction n generalizing a with
  | zero => rfl
  | succ n ih => simp [Memory.readBytes, ih]

@[simp] theorem Stream.state_setHalf (st : Stream) (b : Bool) (h : Half) : (st.setHalf b h).state = st.state := by
  cases b <;> rfl

/-! ## The completion -/

theorem exec_cipherEncodeComplete {s : State} (outside : s.resetting = none) :
    exec .cipherEncodeComplete s = .next (s.cipherCompleted .encode State.encrypted).finish := by
  show Host.Outcome.next (outsideReset s fun s => s.cipherCompleted .encode State.encrypted) = _
  rw [outsideReset_out outside]

theorem exec_cipherReleaseComplete {s : State} (outside : s.resetting = none) :
    exec .cipherReleaseComplete s = .next (s.cipherCompleted .release State.released).finish := by
  show Host.Outcome.next (outsideReset s fun s => s.cipherCompleted .release State.released) = _
  rw [outsideReset_out outside]

namespace State

variable {s : State} {i : Fin 4} {b : Bool} {h : BandHeader} {k : StreamKind} {n : Nat} {d : Document}

/-- The cipher unit is free. -/
def cipherFree (s : State) : State := s.setCipher { s.cipher with work := none }

theorem cipherCompleted_runs (work : s.cipher.work = some { stream := i, half := b }) (kind : (s.stream i).kind = some k)
    (runs : (s.stream i).state ≠ .halt) (header : ((s.stream i).half b).header = some h)
    (result : State → Fin 4 → Bool → BandHeader → State) : s.cipherCompleted k result = result s.cipherFree i b h := by
  rw [cipherCompleted, work]
  dsimp only
  rw [if_pos kind, if_neg (show ((s.setCipher { s.cipher with work := none }).stream i).state ≠ .halt from runs),
    show (((s.setCipher { s.cipher with work := none }).stream i).half b).header = some h from header]
  rfl

theorem cipherCompleted_halted (work : s.cipher.work = some { stream := i, half := b }) (kind : (s.stream i).kind = some k)
    (halted : (s.stream i).state = .halt) (result : State → Fin 4 → Bool → BandHeader → State) :
    s.cipherCompleted k result = s.cipherFree.discardWork i b := by
  rw [cipherCompleted, work]
  dsimp only
  rw [if_pos kind, if_pos (show ((s.setCipher { s.cipher with work := none }).stream i).state = .halt from halted)]
  rfl

/-- The half written over with as many bytes as a band has, and sent. -/
theorem sendHalf_eq (canonical : s.MemoryCanonical) (inside : (s.stream i).HalfInPool b) {bytes : List Byte} {len : Nat}
    (length : bytes.length = len) (fits : len ≤ (s.stream i).halfSize) (tag : Option (BitVec 64)) : ∃ mem,
    s.sendHalf i b bytes tag =
      (s.setMem mem).setStream i ((s.stream i).setHalf b { (s.stream i).half b with state := .sending, tag := tag }) ∧
      mem.readBytes ((s.stream i).halfAddress b) len = bytes ∧
      Memory.SameOutside s.pool.mem mem ((s.stream i).halfAddress b) len := by
  subst length
  have pool : (s.stream i).halfAddress b + (s.stream i).halfSize ≤ poolBytes := inside
  exact ⟨_, rfl, Memory.readBytes_writeBytes canonical (by omega), Memory.sameOutside_writeBytes canonical _ (Nat.le_refl _)⟩

/-- The cipher unit is free after its result was written, and the stream sends the half. -/
def cipherSent (s : State) (mem : Memory) (i : Fin 4) (st : Stream) : State := (s.cipherFree.setMem mem).setStream i st

/-- What a half written and sent leaves of the state, besides its bytes and its stream. -/
theorem cipherSent_frame (s : State) (mem : Memory) (i : Fin 4) (st : Stream) : let u := s.cipherSent mem i st
    (∀ k, k ≠ i → u.stream k = s.stream k) ∧ u.jobs = s.jobs ∧ u.store = s.store ∧ u.link = s.link ∧ s.SameBesidesImages u :=
  ⟨fun _ other => stream_setStream_other _ _ other, rfl, rfl, rfl,
    ((setCipher_images _).trans (setPool_images _)).trans (setStream_images i _)⟩

end State

/-- Settles O46. -/
theorem cipherEncodesAndReleases : Obligations.CipherEncodesAndReleases := by
  refine ⟨combine_combine, ?_⟩
  intro s i b h n d outside canonical work st half addr len bytes result header bound present fits inside
  have document : (s.cipherFree.stream i).document.getD 0 = n := by
    show st.document.getD 0 = n
    rw [bound]; rfl
  have key : s.cipherFree.documentKey n = d.key := by
    show ((s.document n).map (·.key)).getD 0 = d.key
    rw [present]; rfl
  have length : result.length = len := by simp [result, bytes]
  refine ⟨fun runs kind => ?_, fun runs kind agrees => ?_, fun runs kind differs => ?_, fun halted => ?_⟩
  · obtain ⟨mem, parts, reads, same⟩ := State.sendHalf_eq (s := s.cipherFree) (i := i) (b := b) canonical inside length fits
      (some (bandTag d.key n h result))
    let sending := st.setHalf b { half with state := .sending, tag := some (bandTag d.key n h result) }
    have done : s.cipherCompleted .encode State.encrypted = s.cipherSent mem i sending := by
      rw [State.cipherCompleted_runs work kind runs header, State.encrypted, document, key]
      exact parts
    exact ⟨s.cipherSent mem i sending, by rw [exec_cipherEncodeComplete outside, done], rfl, State.stream_setStream_same ..,
      reads, same, s.cipherSent_frame mem i _⟩
  · obtain ⟨mem, parts, reads, same⟩ := State.sendHalf_eq (s := s.cipherFree) (i := i) (b := b) canonical inside length fits half.tag
    let sending : Stream := { st.setHalf b { half with state := .sending } with lastSent := some h.band }
    have done : s.cipherCompleted .release State.released = s.cipherSent mem i sending := by
      rw [State.cipherCompleted_runs work kind runs header, State.released, document, key]
      refine (if_pos agrees).trans ?_
      have sent := congrArg (fun x : State => x.changeStream i fun st => st.sends h.band) parts
      refine sent.trans ?_
      show ((s.cipherFree.setMem mem).setStream i _).setStream i _ = _
      rw [State.stream_setStream_same, State.setStream_setStream]
      rfl
    exact ⟨s.cipherSent mem i sending, by rw [exec_cipherReleaseComplete outside, done], rfl, State.stream_setStream_same ..,
      reads, same, s.cipherSent_frame mem i _⟩
  · have going : st.state ≠ .halt := by
      intro halted
      rw [Stream.holdOrFlow, halted] at runs
      cases runs
    let back := s.cipherFree.changeStream i fun st => st.givenBack b
    have done : s.cipherCompleted .release State.released = back.halt i .auth := by
      rw [State.cipherCompleted_runs work kind going header, State.released, document, key]
      exact if_neg differs
    have may : (back.stream i).mayHalt .auth = true := by
      have given : back.stream i = st.givenBack b := State.stream_setStream_same ..
      rw [given, Stream.mayHalt, Stream.holdOrFlow, Stream.givenBack, Stream.state_setHalf]
      show (st.holdOrFlow || _) = true
      rw [runs]; rfl
    obtain ⟨state, cause⟩ := State.halt_halts may
    obtain ⟨jobs, store, mem, _, cipher⟩ := halt_jobs_store (s := back) i .auth
    exact ⟨back.halt i .auth, by rw [exec_cipherReleaseComplete outside, done], cipher, state, cause, mem, jobs, store,
      ((setCipher_images _).trans (setStream_images i _)).trans (halt_images i .auth)⟩
  · refine ⟨s.cipherFree.discardWork i b, fun kind => ?_, fun kind => ?_, rfl, State.stream_setStream_same .., rfl, rfl, rfl, rfl,
      rfl, ((setCipher_images _).trans (setStream_images i _)).trans (joinFill_images i _)⟩
    · rw [exec_cipherEncodeComplete outside, State.cipherCompleted_halted work kind halted]
    · rw [exec_cipherReleaseComplete outside, State.cipherCompleted_halted work kind halted]

end Sys2Proof.Machine
end

section
/-! PROOFS. The completions of the sendings (O47, O48). -/

namespace Sys2Proof.Machine

namespace State

variable {s t : State} {i : Fin 4} {b : Bool} {h : BandHeader} {k : StreamKind}

/-! ## What every sending does first -/

theorem kind_of_sendingOn (sending : s.sendingOn k = some (i, b)) : (s.stream i).kind = some k := by
  obtain ⟨i', -, found⟩ := List.exists_of_findSome?_eq_some sending
  split at found
  · next kind =>
    obtain ⟨b', -, same⟩ := Option.map_eq_some_iff.mp found
    cases same
    exact kind
  · cases found

theorem sendCompleted_eq (sending : s.sendingOn k = some (i, b)) (header : ((s.stream i).half b).header = some h)
    (sent : State → Fin 4 → Bool → BandHeader → State) : s.sendCompleted k sent = sent s i b h := by
  rw [sendCompleted, sending]
  dsimp only
  rw [header]

/-- The half is zero and EMPTY, and no other byte has changed. -/
theorem emptyHalf_eq (s : State) (i : Fin 4) (b : Bool) : ∃ mem,
    s.emptyHalf i b = (s.setMem mem).setStream i ((s.stream i).setHalf b {}) ∧
      (∀ x, (s.stream i).halfAddress b ≤ x → x < (s.stream i).halfAddress b + (s.stream i).halfSize → mem.read x = 0) ∧
      Memory.SameOutside s.pool.mem mem ((s.stream i).halfAddress b) (s.stream i).halfSize := by
  obtain ⟨mem, zeroed, _, read⟩ := s.zeroHalf_eq (s.stream i) b
  refine ⟨mem, ?_, fun x from_ within => ?_, fun x outside => ?_⟩
  · rw [emptyHalf, zeroed]; rfl
  · rw [read, if_pos ⟨from_, within⟩]
  · rw [read, if_neg (by omega)]

/-! ## VIDEO -/

theorem holdOrFlow_of_state {st st' : Stream} (same : st'.state = st.state) : st'.holdOrFlow = st.holdOrFlow := by
  rw [Stream.holdOrFlow, Stream.holdOrFlow, same]

end State

theorem exec_videoSendComplete {s : State} (outside : s.resetting = none) :
    exec .videoSendComplete s = .next (s.sendCompleted .release State.videoSent).finish := by
  show Host.Outcome.next (outsideReset s fun s => s.sendCompleted .release State.videoSent) = _
  rw [outsideReset_out outside]

theorem exec_imgSendComplete {s : State} (outside : s.resetting = none) :
    exec .imgSendComplete s = .next (s.sendCompleted .encode State.imgSent).finish := by
  show Host.Outcome.next (outsideReset s fun s => s.sendCompleted .encode State.imgSent) = _
  rw [outsideReset_out outside]

/-- The stream after a band was sent on the video port, short of DONE. -/
def Stream.videoCounted (st : Stream) (b page : Bool) : Stream :=
  { st.setHalf b {} with
    pages := if page then min 65535 (st.pages + 1) else st.pages, page := if page then min 65535 (st.page + 1) else st.page }

theorem Stream.setHalf_fields (st : Stream) (b : Bool) (h : Half) : let x := st.setHalf b h
    x.state = st.state ∧ x.idle = st.idle ∧ x.pages = st.pages ∧ x.page = st.page ∧ x.job = st.job ∧ x.document = st.document ∧
      x.bands = st.bands ∧ x.duplicates = st.duplicates ∧ x.refused = st.refused ∧ x.kind = st.kind := by
  cases b <;> exact ⟨rfl, rfl, rfl, rfl, rfl, rfl, rfl, rfl, rfl, rfl⟩

/-- The entry to DONE, where it is due. -/
theorem State.enterDoneIf_facts (w : State) (i : Fin 4) (done : Bool) :
    let u := if done = true then w.enterDone i else w
    u.stream i = { w.stream i with
      state := if done then .done else (w.stream i).state, idle := if done then none else (w.stream i).idle } ∧
    (∀ k, k ≠ i → u.stream k = w.stream k) ∧
    u.link = (if done then w.link.post (.streamDone (w.doneReport i)) else w.link) ∧
    ∃ streams link, u = (w.setStreams streams).setLink link := by
  cases done with
  | false => exact ⟨rfl, fun _ _ => rfl, rfl, w.streams, w.link, rfl⟩
  | true =>
    have report : (w.changeStream i fun st => { st with state := .done, idle := none }).doneReport i = w.doneReport i := by
      have record : (w.changeStream i fun st => { st with state := .done, idle := none }).stream i =
          { w.stream i with state := .done, idle := none } := State.stream_setStream_same ..
      rw [State.doneReport, record]; rfl
    refine ⟨State.stream_setStream_same .., fun k other => State.stream_setStream_other _ _ other, ?_, _, _, rfl⟩
    show (w.link).post (.streamDone (State.doneReport _ i)) = _
    rw [report]; rfl

/-- Settles O48. -/
theorem videoSendingsEndTheStream : Obligations.VideoSendingsEndTheStream := by
  intro s i b h outside sending st header inside page done pages
  obtain ⟨mem, emptied, zeros, same⟩ := s.emptyHalf_eq i b
  obtain ⟨state, idle, pages', page', job, document, bands, duplicates, refused, _⟩ := st.setHalf_fields b {}
  let w := (s.setMem mem).setStream i (st.videoCounted b page)
  have counted : (if page then (s.emptyHalf i b).changeStream i Stream.pageReleased else s.emptyHalf i b) = w := by
    rw [emptied]
    cases last : page with
    | false =>
      have still : st.videoCounted b false = st.setHalf b {} := by cases b <;> rfl
      show (s.setMem mem).setStream i (st.setHalf b {}) = (s.setMem mem).setStream i (st.videoCounted b page)
      rw [last, still]
    | true =>
      have turned : (st.setHalf b {}).pageReleased = st.videoCounted b true := by
        rw [Stream.pageReleased, pages', page']; rfl
      show ((s.setMem mem).setStream i (st.setHalf b {})).setStream i _ = (s.setMem mem).setStream i (st.videoCounted b page)
      rw [State.stream_setStream_same, State.setStream_setStream, last]
      exact congrArg ((s.setMem mem).setStream i) turned
  have record : w.stream i = st.videoCounted b page := State.stream_setStream_same ..
  have sent : s.videoSent i b h = if done = true then w.enterDone i else w := by
    have ends : w.isLastBand (w.stream i).document h.band = true ∧ (w.stream i).holdOrFlow = true ↔ done = true := by
      have named : (w.stream i).document = st.document := by rw [record]; exact document
      have open_ : (w.stream i).holdOrFlow = st.holdOrFlow := State.holdOrFlow_of_state (by rw [record]; exact state)
      rw [named, open_]
      exact (Bool.and_eq_true _ _).symm ▸ Iff.rfl
    rw [State.videoSent, show (if flagLastOfPage h.flags = true then _ else _) = w from counted]
    simp only [ends]
  obtain ⟨stream, others, link, streams, posted, parts⟩ := w.enterDoneIf_facts i done
  have report : w.doneReport i =
      { stream := i, job := st.job, document := st.document, bands := st.bands, pages := pages,
        duplicates := st.duplicates, refused := st.refused } := by
    rw [State.doneReport, record]
    show ({ stream := i, job := (st.setHalf b {}).job, document := (st.setHalf b {}).document, bands := (st.setHalf b {}).bands,
            pages := pages, duplicates := (st.setHalf b {}).duplicates, refused := (st.setHalf b {}).refused } : DoneReport) = _
    rw [job, document, bands, duplicates, refused]
  rw [report] at link
  rw [record] at stream
  have ends : exec .videoSendComplete s = .next (if done = true then w.enterDone i else w).finish := by
    rw [exec_videoSendComplete outside, State.sendCompleted_eq sending header, sent]
  rw [parts] at stream others link ends
  refine ⟨_, ends, ?_, fun k other => (others k other).trans (State.stream_setStream_other _ _ other), zeros, same, link, rfl, rfl,
    rfl, rfl, (((setPool_images _).trans (setStream_images i _)).trans (setStreams_images _)).trans (setLink_images _)⟩
  rw [stream]
  show ({ st.videoCounted b page with
    state := if done then .done else (st.setHalf b {}).state, idle := if done then none else (st.setHalf b {}).idle } : Stream) = _
  rw [state, idle]
  rfl

end Sys2Proof.Machine
end

section
/-! PROOFS. The completion of a sending on the image link: bands, pages and their charge (O47). -/

namespace Sys2Proof.Machine

namespace State

variable {s t : State} {i : Fin 4} {b : Bool} {n m : Nat} {j : Job}

/-! ## A stream that no stop reaches -/

/-- No BOX_PRINT job names the stream. -/
def NoPrintOn (i : Fin 4) (s : State) : Prop := ∀ n x, s.job n = some x → x.kind = .boxPrint → x.stream ≠ some i

theorem StopsOnly.noPrintOn (only : s.StopsOnly t) (free : s.NoPrintOn i) : t.NoPrintOn i := by
  intro n x listed kind bound
  have same := only.job_map (f := fun j => (j.kind, j.stream)) (fun j c => by rw [Job.stopped]; split <;> rfl) n
  rw [listed] at same
  obtain ⟨y, present, fields⟩ := Option.map_eq_some_iff.mp same.symm
  have kinds : y.kind = x.kind := congrArg Prod.fst fields
  have streams : y.stream = x.stream := congrArg Prod.snd fields
  exact free n y present (kinds.trans kind) (streams.trans bound)

theorem stream_stopJob_kept (free : s.NoPrintOn i) (n : Nat) (cause : StopCause) : (s.stopJob n cause).stream i = s.stream i := by
  unfold stopJob
  split
  · rfl
  · next j listed =>
    split
    · dsimp only
      split
      · next k bound =>
        split
        · next released => exact halt_stream_other _ fun same => free n j listed released.1 (by rw [bound, same])
        · rfl
      · rfl
    · rfl

theorem stream_stopJobs_kept (cause : StopCause) (numbers : List Nat) (s : State) (free : s.NoPrintOn i) :
    (s.stopJobs cause numbers).stream i = s.stream i := by
  unfold stopJobs
  induction numbers generalizing s with
  | nil => rfl
  | cons n rest ih =>
    rw [List.foldl_cons, ih _ ((s.stopsOnly_stopJob n cause).noPrintOn free), stream_stopJob_kept free]

theorem stream_reevaluateIf_kept (free : s.NoPrintOn i) (before p : Nat) : (s.reevaluateIf before p).stream i = s.stream i := by
  unfold reevaluateIf
  split
  · rfl
  · cases present : s.account p with
    | none => rw [reevaluate_none present]
    | some a =>
      by_cases same : stageAfter s.settings a.stage (s.available p) = a.stage
      · rw [reevaluate_same present same]
      · rw [reevaluate_moved present same]
        split
        · exact stream_stopJobs_kept _ _ _ ((s.stopsOnly_staged p a .stopped).noPrintOn free)
        · rfl

theorem noPrintOn_of_encode (matched : s.BindingsMatch) (kind : (s.stream i).kind = some .encode) : s.NoPrintOn i := by
  intro n x listed print bound
  obtain ⟨_, kinds, _⟩ := matched.jobs n x i listed bound
  rw [kind, print] at kinds
  cases kinds

/-! ## DONE with the scan complete mark -/

theorem job_markScanComplete (named : (s.stream i).job = some m) (listed : s.job m = some j) :
    (s.markScanComplete i).job m = some { j with scanComplete := true } := by
  have changed := s.job_changeJob m (fun j => { j with scanComplete := true }) m
  rw [if_pos rfl, listed] at changed
  rw [markScanComplete, named]
  exact changed

theorem markScanComplete_eq (s : State) (i : Fin 4) : s.markScanComplete i = s.setJobs (s.markScanComplete i).jobs := by
  unfold markScanComplete
  split <;> rfl

/-- The entry of an ENCODE stream to DONE, where it is due. -/
theorem scanDoneIf_facts (w : State) (i : Fin 4) (done : Bool) (named : (w.stream i).job = some m) (listed : w.job m = some j) :
    let u := if done = true then (w.markScanComplete i).enterDone i else w
    u.stream i = { w.stream i with
      state := if done then .done else (w.stream i).state, idle := if done then none else (w.stream i).idle } ∧
    u.job m = some { j with scanComplete := j.scanComplete || done } ∧
    ∃ jobs streams link, u = ((w.setJobs jobs).setStreams streams).setLink link := by
  cases done with
  | false =>
    refine ⟨rfl, ?_, w.jobs, w.streams, w.link, rfl⟩
    rw [Bool.or_false]
    exact listed
  | true =>
    have marked := job_markScanComplete named listed
    have parts := w.markScanComplete_eq i
    obtain ⟨stream, _, _, streams, link, done⟩ := (w.markScanComplete i).enterDoneIf_facts i true
    have same : (w.markScanComplete i).stream i = w.stream i := by rw [parts]; rfl
    rw [same] at stream
    refine ⟨stream, ?_, (w.markScanComplete i).jobs, streams, link, ?_⟩
    · rw [Bool.or_true]
      exact (congrArg (fun u : State => u.job m) done).trans marked
    · rw [← parts]
      exact done

/-! ## The charge of a page -/

/-- What a sending on the image link leaves of the units beside streams, jobs, documents and money. -/
def SameUnits (s u : State) : Prop :=
  u.session = s.session ∧ u.rates = s.rates ∧ u.settings = s.settings ∧ u.queue = s.queue ∧ u.cart = s.cart ∧ u.tamper = s.tamper

theorem SameUnits.trans {u : State} (first : s.SameUnits t) (second : t.SameUnits u) : s.SameUnits u := by
  obtain ⟨session, rates, settings, queue, cart, tamper⟩ := first
  obtain ⟨session', rates', settings', queue', cart', tamper'⟩ := second
  exact ⟨session'.trans session, rates'.trans rates, settings'.trans settings, queue'.trans queue, cart'.trans cart,
    tamper'.trans tamper⟩

/-- What the charge of a page leaves of the images and of the other accounts. -/
structure PageFrame (i : Fin 4) (p : Nat) (s u : State) : Prop where
  stream : u.stream i = s.stream i
  store : u.store = s.store
  mem : u.pool.mem = s.pool.mem
  units : s.SameUnits u
  others : ∀ q, q ≠ p → u.account q = s.account q

/-- A page past the counting limit goes to the house account. -/
theorem settlePage_house (many : 8000000 ≤ j.scanPages) (c : Nat) :
    s.settlePage j c = s.settleHouse c { pages := 1 } := if_neg (Nat.not_lt.mpr many)

theorem settleHouse_page (s : State) (i : Fin 4) (p c : Nat) : let u := s.settleHouse c { pages := 1 }
    u.jobs = s.jobs ∧ u.accounts = s.accounts ∧ u.house = s.house.addAll 0 0 1 c ∧
      u.meters = s.meters.addAll { scanPages := 1, pointsCharged := c } ∧ PageFrame i p s u :=
  ⟨rfl, rfl, rfl, rfl, rfl, rfl, rfl, ⟨rfl, rfl, rfl, rfl, rfl, rfl⟩, fun _ _ => rfl⟩

/-- A page charged to its job and to its owner's account. -/
theorem settlePage_job {a : Account} (few : j.scanPages < 8000000) (present : s.job j.number = some j)
    (owned : s.account j.owner = some a) (free : s.NoPrintOn i) (c : Nat) :
    let u := s.settlePage j c
    let d := drawOf c j.holdRemaining (s.available j.owner)
    PageFrame i j.owner s u ∧ u.house = s.house ∧
      u.meters = s.meters.addAll { scanPages := 1, pointsCharged := c, arrearsPoints := d.arrears } ∧
      (∃ k, u.job j.number = some k ∧ k.scanComplete = j.scanComplete ∧ k.scanPages = j.scanPages + 1 ∧
        k.pointsCharged = j.pointsCharged + c ∧ k.holdRemaining = j.holdRemaining - d.hold ∧
        k.pointsDrawn = j.pointsDrawn + d.balance ∧ k.pointsArrears = j.pointsArrears + d.arrears) ∧
      ∃ x, u.account j.owner = some x ∧ x.balance = a.balance - d.balance ∧
        x.arrears = min 16000000 (a.arrears + d.arrears) ∧ x.counters = a.counters.addAll 0 0 1 c := by
  intro u d
  let m := s.settleMoney j c { pages := 1 }
  have parts : u = m.reevaluateIf (s.available j.owner) j.owner := if_pos (show j.scanPages < Config.countingLimit from few)
  have only : m.StopsOnly u := parts ▸ stopsOnly_reevaluateIf ..
  have charged := job_settleMoney present c { pages := 1 }
  have money := s.account_settleMoney j c { pages := 1 }
  have unprinted : m.NoPrintOn i := by
    intro n x listed
    have changed := s.job_changeJob j.number (fun x => (x.drawn c d).counted { pages := 1 }) n
    rw [show (s.changeJob j.number _).job n = some x from listed] at changed
    split at changed
    · obtain ⟨y, there, same⟩ := Option.map_eq_some_iff.mp changed.symm
      rw [← same]
      exact free n y there
    · exact free n x changed.symm
  refine ⟨⟨?_, only.store, only.mem, ⟨only.session, only.rates, only.settings, only.queue, only.cart, only.tamper⟩,
    fun q other => ?_⟩, only.house, only.meters, ?_, ?_⟩
  · rw [parts]
    exact stream_reevaluateIf_kept unprinted ..
  · rw [parts, account_reevaluateIf_other other, money, if_neg other]
  · rcases only.job_some charged with kept | ⟨cause, _, stopped⟩
    · exact ⟨_, kept, rfl, rfl, rfl, rfl, rfl, rfl⟩
    · exact ⟨_, stopped, rfl, rfl, rfl, rfl, rfl, rfl⟩
  · have own := money j.owner
    rw [if_pos rfl, owned] at own
    obtain ⟨x, listed, fields⟩ := only.account_some own
    obtain ⟨balance, arrears, _, _, _, counters⟩ := Account.fields_of_unstaged fields
    exact ⟨x, listed, balance, arrears, counters⟩

/-! ## The bands and pages of the document -/

/-- A half sent on the image link: its bytes, its stream's record and the documents. -/
def imageSent (s : State) (mem : Memory) (i : Fin 4) (st : Stream) (store : DocStore) : State :=
  ((s.setMem mem).setStream i st).setStore store

theorem stream_imageSent (s : State) (mem : Memory) (i : Fin 4) (st : Stream) (store : DocStore) :
    (s.imageSent mem i st store).stream i = st := stream_setStream_same ..

/-- The documents after one of them has a band more, and perhaps a page more. -/
def sentDocs (s : State) (n : Nat) (page : Bool) : DocStore :=
  { s.store with docs := s.store.docs.map fun x => if x.number = n then { x with
    bands := min 65535 (x.bands + 1), pages := if page then min 65535 (x.pages + 1) else x.pages } else x }

/-- The stream after a band was sent on the image link, short of DONE. -/
def imageCounted (st : Stream) (b page : Bool) : Stream :=
  { st.setHalf b {} with pages := if page then min 65535 (st.pages + 1) else st.pages }

theorem imageCounted_false (st : Stream) (b : Bool) : imageCounted st b false = st.setHalf b {} := by cases b <;> rfl

theorem bandSent_eq {mem : Memory} (emptied : s.emptyHalf i b = (s.setMem mem).setStream i ((s.stream i).setHalf b {}))
    (named : (s.stream i).document = some n) :
    (s.emptyHalf i b).bandSent i = s.imageSent mem i (imageCounted (s.stream i) b false) (s.sentDocs n false) := by
  obtain ⟨_, _, _, _, _, document, _⟩ := (s.stream i).setHalf_fields b {}
  rw [emptied, bandSent, stream_setStream_same, document, named, imageCounted_false]
  rfl

theorem sentDocs_page (s : State) (n : Nat) : (s.sentDocs n false).docs.map (fun d => if d.number = n then
    { d with pages := satAdd Config.maxNumber d.pages 1 } else d) = (s.sentDocs n true).docs := by
  show (s.store.docs.map _).map _ = s.store.docs.map _
  rw [List.map_map]
  refine List.map_congr_left fun x _ => ?_
  by_cases own : x.number = n
  · simp only [Function.comp, if_pos own]; rfl
  · simp only [Function.comp, if_neg own]

theorem pageCounted_imageSent (s : State) (mem : Memory) (named : (s.stream i).document = some n) :
    (s.imageSent mem i (imageCounted (s.stream i) b false) (s.sentDocs n false)).pageCounted i =
      s.imageSent mem i (imageCounted (s.stream i) b true) (s.sentDocs n true) := by
  obtain ⟨_, _, pages, _, _, document, _⟩ := (s.stream i).setHalf_fields b {}
  let v := s.imageSent mem i (imageCounted (s.stream i) b false) (s.sentDocs n false)
  have record : v.stream i = imageCounted (s.stream i) b false := stream_imageSent ..
  have bound : (v.stream i).document = some n := by rw [record]; exact document.trans named
  show v.pageCounted i = _
  rw [pageCounted, bound]
  dsimp only
  have turned : v.changeStream i (fun st => { st with pages := satAdd Config.maxNumber st.pages 1 }) =
      s.imageSent mem i (imageCounted (s.stream i) b true) (s.sentDocs n false) := by
    rw [changeStream, record]
    exact congrArg (·.setStore (s.sentDocs n false)) (setStream_setStream (s.setMem mem) i _ _)
  rw [turned, changeDocument]
  exact congrArg (fun docs => ((s.setMem mem).setStream i (imageCounted (s.stream i) b true)).setStore
    { s.store with docs := docs }) (s.sentDocs_page n)

/-- A last-of-page band counts its page and charges it; any other band is counted alone. -/
theorem bandSent_page {mem : Memory} (emptied : s.emptyHalf i b = (s.setMem mem).setStream i ((s.stream i).setHalf b {}))
    (named : (s.stream i).document = some n) (bound : (s.stream i).job = some m) (present : s.job m = some j) (page : Bool)
    (size : Nat) :
    let v := s.imageSent mem i (imageCounted (s.stream i) b page) (s.sentDocs n page)
    (if page = true then ((s.emptyHalf i b).bandSent i).pageSent i size else (s.emptyHalf i b).bandSent i) =
      if page = true then v.settlePage j (s.rates.scanRate size) else v := by
  obtain ⟨_, _, _, _, job, _⟩ := (s.stream i).setHalf_fields b {}
  intro v
  rw [bandSent_eq emptied named]
  cases page with
  | false => rfl
  | true =>
    have counted : (s.imageSent mem i (imageCounted (s.stream i) b false) (s.sentDocs n false)).pageCounted i = v :=
      s.pageCounted_imageSent mem named
    have own : ((s.imageSent mem i (imageCounted (s.stream i) b false) (s.sentDocs n false)).stream i).job = some m := by
      rw [stream_imageSent]; exact job.trans bound
    rw [if_pos rfl, if_pos rfl, pageSent_eq, counted, own, Option.bind_some, show v.job m = some j from present]
    rfl

/-- The state after the charge, if there is one, in the words of the statement. -/
theorem settledPage_facts {v : State} {a : Account} (number : j.number = m) (present : v.job m = some j)
    (owned : v.account j.owner = some a) (free : v.NoPrintOn i) (page : Bool) (c : Nat) :
    let w := if page = true then v.settlePage j c else v
    let d := drawOf c j.holdRemaining (v.available j.owner)
    PageFrame i j.owner v w ∧ ∃ k, w.job m = some k ∧ k.scanComplete = j.scanComplete ∧
      (page = false → k.scanPages = j.scanPages ∧ k.pointsCharged = j.pointsCharged ∧ w.accounts = v.accounts ∧
        w.house = v.house ∧ w.meters = v.meters) ∧
      (page = true → 8000000 ≤ j.scanPages → k.scanPages = j.scanPages ∧ k.pointsCharged = j.pointsCharged ∧
        w.accounts = v.accounts ∧ w.house = v.house.addAll 0 0 1 c ∧
        w.meters = v.meters.addAll { scanPages := 1, pointsCharged := c }) ∧
      (page = true → j.scanPages < 8000000 → k.scanPages = j.scanPages + 1 ∧ k.pointsCharged = j.pointsCharged + c ∧
        k.holdRemaining = j.holdRemaining - d.hold ∧ k.pointsDrawn = j.pointsDrawn + d.balance ∧
        k.pointsArrears = j.pointsArrears + d.arrears ∧ w.house = v.house ∧
        w.meters = v.meters.addAll { scanPages := 1, pointsCharged := c, arrearsPoints := d.arrears } ∧
        ∃ x, w.account j.owner = some x ∧ x.balance = a.balance - d.balance ∧
          x.arrears = min 16000000 (a.arrears + d.arrears) ∧ x.counters = a.counters.addAll 0 0 1 c) := by
  subst number
  cases page with
  | false =>
    exact ⟨⟨rfl, rfl, rfl, ⟨rfl, rfl, rfl, rfl, rfl, rfl⟩, fun _ _ => rfl⟩, j, present, rfl, fun _ => ⟨rfl, rfl, rfl, rfl, rfl⟩,
      fun last => (nomatch last), fun last => (nomatch last)⟩
  | true =>
    rw [if_pos rfl]
    by_cases few : j.scanPages < 8000000
    · obtain ⟨frame, house, meters, ⟨k, listed, complete, pages, charged, hold, drawn, arrears⟩, account⟩ :=
        settlePage_job few present owned free c
      exact ⟨frame, k, listed, complete, fun last => (nomatch last), fun _ many => absurd few (Nat.not_lt.mpr many),
        fun _ _ => ⟨pages, charged, hold, drawn, arrears, house, meters, account⟩⟩
    · rw [settlePage_house (Nat.not_lt.mp few)]
      obtain ⟨jobs, accounts, house, meters, frame⟩ := v.settleHouse_page i j.owner c
      exact ⟨frame, j, present, rfl, fun last => (nomatch last), fun _ _ => ⟨rfl, rfl, accounts, house, meters⟩,
        fun _ more => absurd more few⟩

end State

/-- Settles O47: bands and pages are counted first, then the page is charged, and a last band ends the stream. -/
theorem imageSendingsCountBandsAndPages : Obligations.ImageSendingsCountBandsAndPages := by
  intro s i b h n m j a outside matched sending st header bound job present owned inside page done c d
  obtain ⟨mem, emptied, zeros, same⟩ := s.emptyHalf_eq i b
  obtain ⟨state, idle, _, _, stays, document, _⟩ := st.setHalf_fields b {}
  let v := s.imageSent mem i (State.imageCounted st b page) (s.sentDocs n page)
  let w := if page = true then v.settlePage j c else v
  have counted : (if page = true then ((s.emptyHalf i b).bandSent i).pageSent i h.sizeClass else (s.emptyHalf i b).bandSent i) = w :=
    State.bandSent_page emptied bound job present page h.sizeClass
  obtain ⟨frame, k, listed, complete, facts⟩ := State.settledPage_facts (v := v) (i := i)
    (State.number_of_job matched.inOrder present) present owned
    (State.noPrintOn_of_encode (s := s) matched (State.kind_of_sendingOn sending)) page c
  rw [show v.available j.owner = a.balance - s.totalHolds j.owner from s.available_of_account owned] at facts
  have record : w.stream i = State.imageCounted st b page := frame.stream.trans (State.stream_imageSent ..)
  have sent : s.imgSent i b h = if done = true then (w.markScanComplete i).enterDone i else w := by
    have ends : flagLastOfDocument h.flags = true ∧ (w.stream i).holdOrFlow = true ↔ done = true := by
      have open_ : (w.stream i).holdOrFlow = st.holdOrFlow := State.holdOrFlow_of_state (by rw [record]; exact state)
      rw [open_]
      exact (Bool.and_eq_true _ _).symm ▸ Iff.rfl
    rw [State.imgSent, show (if flagLastOfPage h.flags = true then _ else _) = w from counted]
    simp only [ends]
  obtain ⟨stream, marked, jobs, streams, link, parts⟩ := State.scanDoneIf_facts w i done (by rw [record]; exact stays.trans job) listed
  have ends : exec .imgSendComplete s = .next (if done = true then (w.markScanComplete i).enterDone i else w).finish := by
    rw [exec_imgSendComplete outside, State.sendCompleted_eq sending header, sent]
  rw [parts] at stream marked ends
  obtain ⟨plain, house, charged⟩ := facts
  refine ⟨_, _, ends, marked, ?_, ?_, ?_, frame.store, ?_, plain, house, charged, frame.others, frame.units⟩
  · rw [stream, record]
    show ({ State.imageCounted st b page with
      state := if done then .done else (st.setHalf b {}).state, idle := if done then none else (st.setHalf b {}).idle } : Stream) = _
    rw [state, idle]
    rfl
  · intro x from_ within
    show w.pool.mem.read x = 0
    rw [frame.mem]
    exact zeros x from_ within
  · intro x beyond
    show w.pool.mem.read x = _
    rw [frame.mem]
    exact same x beyond
  · show (k.scanComplete || done) = _
    rw [complete]

end Sys2Proof.Machine
end

section
/-! PROOFS. The fills (O50) and the idle expiry (O49). -/

namespace Sys2Proof.Machine

/-! ## The blocks of the pool -/

theorem read_zeroBlocks (m : Memory) (r : BlockRange) : (∀ a, r.first * 64 ≤ a → a < (r.first + r.count) * 64 →
    (m.zeroBlocks r).read a = 0) ∧ Memory.SameOutside m (m.zeroBlocks r) (r.first * 64) (r.count * 64) := by
  have read : ∀ a, (m.zeroBlocks r).read a = if r.first * 64 ≤ a ∧ a < r.first * 64 + r.count * 64 then 0 else m.read a :=
    fun a => Memory.read_zero ..
  refine ⟨fun a from_ within => ?_, fun a outside => ?_⟩
  · rw [read, if_pos ⟨from_, by omega⟩]
  · rw [read, if_neg (by omega)]

/-- With no window bound and no range listed every block is FREE. -/
theorem blockOwner_free {p : Pool} {streams : Four Stream} (ready : p.underReset = false)
    (unbound : ∀ i, (streams.get i).window = none) (unlisted : p.wipe = []) (b : Nat) : blockOwner p streams b = .free := by
  have none_ : fourIndices.find? (fun i => ((streams.get i).window.map fun w => w.range.has b).getD false) = none := by
    refine List.find?_eq_none.mpr fun i _ => ?_
    rw [unbound i]
    exact Bool.false_ne_true
  rw [blockOwner, ready, if_neg (by decide), none_, unlisted]
  rfl

theorem freeCount_all {p : Pool} {streams : Four Stream} (free : ∀ b, blockOwner p streams b = .free) :
    freeCount p streams = 512 := by
  have all : freeMap p streams = List.replicate 512 true := by
    rw [freeMap, show Config.poolBlocks = 512 from rfl]
    simp only [free, beq_self_eq_true, List.map_const', List.length_range]
  rw [freeCount, all, List.count_replicate_self]

/-! ## The completions -/

section
variable {s : State} (outside : s.resetting = none)
include outside

theorem exec_haltFillHalfComplete : exec .haltFillHalfComplete s = .next s.halfFilled.finish := by
  show Host.Outcome.next (outsideReset s State.halfFilled) = _
  rw [outsideReset_out outside]

theorem exec_wipeRangeComplete : exec .wipeRangeComplete s = .next s.rangeWiped.finish := by
  show Host.Outcome.next (outsideReset s State.rangeWiped) = _
  rw [outsideReset_out outside]

theorem exec_fullFillComplete : exec .fullFillComplete s = .next s.fullFilled.finish := by
  show Host.Outcome.next (outsideReset s State.fullFilled) = _
  rw [outsideReset_out outside]

end

namespace State

variable {s : State} {i : Fin 4} {b live : Bool} {blocks : BlockRange}

theorem halfFilled_eq (item : s.pool.fill = some (.half i b blocks live)) : s.halfFilled =
    if live then (s.setPool { s.pool with mem := s.pool.mem.zeroBlocks blocks, fill := none }).setStream i ((s.stream i).setHalf b {})
    else s.setPool { s.pool with mem := s.pool.mem.zeroBlocks blocks, fill := none } := by
  rw [halfFilled, item]
  rfl

theorem rangeWiped_eq {r : BlockRange} {rest : List BlockRange} (item : s.pool.fill = some .range) (listed : s.pool.wipe = r :: rest) :
    s.rangeWiped =
      let t := s.setPool { s.pool with mem := s.pool.mem.zeroBlocks r, wipe := rest, fill := none }
      t.setLink (if rest = [] then s.link.post (.wipeDone .list (freeCount t.pool s.streams)) else s.link) := by
  rw [rangeWiped, item, listed]
  cases rest with
  | nil => rfl
  | cons _ _ => rfl

end State

/-- Settles O50. -/
theorem fillsZeroTheirBlocks : Obligations.FillsZeroTheirBlocks := by
  intro s outside
  refine ⟨fun i b blocks live item => ?_, fun r rest item listed => ?_, fun item => ?_⟩
  · obtain ⟨zeros, same⟩ := read_zeroBlocks s.pool.mem blocks
    have ends := exec_haltFillHalfComplete outside
    rw [State.halfFilled_eq item] at ends
    cases live with
    | true =>
      rw [if_pos rfl] at ends
      exact ⟨_, ends, zeros, same, rfl,
        fun _ => State.stream_setStream_same .., fun h => (nomatch h), fun k other => State.stream_setStream_other _ _ other, rfl,
        rfl, rfl, (setPool_images _).trans (setStream_images i _)⟩
    | false =>
      rw [if_neg (by decide)] at ends
      exact ⟨_, ends, zeros, same, rfl, fun h => (nomatch h),
        fun _ => rfl, fun _ _ => rfl, rfl, rfl, rfl, setPool_images _⟩
  · obtain ⟨zeros, same⟩ := read_zeroBlocks s.pool.mem r
    have ends := exec_wipeRangeComplete outside
    rw [State.rangeWiped_eq item listed] at ends
    exact ⟨_, ends, zeros, same, rfl, rfl, rfl, rfl, rfl,
      (setPool_images _).trans (setLink_images _)⟩
  · have filled : s.fullFilled = (s.setPool { s.pool with mem := [], fill := none, underReset := false }).postWipeDone .reset := by
      rw [State.fullFilled, item]
    have ends := exec_fullFillComplete outside
    rw [filled] at ends
    refine ⟨_, ends, fun _ => rfl, rfl, rfl, fun unbound unlisted => ?_, rfl, rfl, rfl,
      (setPool_images _).trans (post_images _)⟩
    have free := blockOwner_free (p := { s.pool with mem := [], fill := none, underReset := false }) (streams := s.streams) rfl unbound
      unlisted
    exact ⟨fun b _ => free b, freeCount_all free⟩

/-! ## The idle expiry -/

theorem Stream.half_awaitFill (st : Stream) (b : Bool) :
    ({ st with half0 := st.half0.awaitFill, half1 := st.half1.awaitFill } : Stream).half b = (st.half b).awaitFill := by
  cases b <;> rfl

/-- A halt with nothing being written: the halves, the counts and the resume point. -/
theorem Stream.enterHalt_plain (st : Stream) (cause : HaltCause) : let x := st.enterHalt cause none
    (∀ b, x.half b = (st.half b).awaitFill) ∧
      (st.kind = some .release → x.nextBand = (st.lastSent.map (· + 1)).getD 0) ∧
      (st.kind ≠ some .release → x.nextBand = st.nextBand ∧ x.page = st.page) ∧
      x.bands = st.bands ∧ x.pages = st.pages ∧ x.window = st.window ∧ x.job = st.job ∧ x.document = st.document := by
  intro x
  by_cases release : st.kind = some .release
  · have same : x = ({ st with
        half0 := st.half0.awaitFill, half1 := st.half1.awaitFill, state := .halt, haltCause := some cause,
        idle := none } : Stream).resumePoint := if_pos release
    rw [same]
    exact ⟨fun b => st.half_awaitFill b, fun _ => rfl, fun other => absurd release other, rfl, rfl, rfl, rfl, rfl⟩
  · have same : x = { st with
        half0 := st.half0.awaitFill, half1 := st.half1.awaitFill, state := .halt, haltCause := some cause,
        idle := none } := if_neg release
    rw [same]
    exact ⟨fun b => st.half_awaitFill b, fun h => absurd h release, fun _ => ⟨rfl, rfl⟩, rfl, rfl, rfl, rfl, rfl⟩

theorem Stream.mem_waitingHalves (st : Stream) (b : Bool) : b ∈ st.waitingHalves ↔ (st.half b).waiting = true := by
  cases b <;> simp [Stream.waitingHalves]

/-- Settles O49. -/
theorem idleExpiryHaltsTheStream : Obligations.IdleExpiryHaltsTheStream := by
  intro s i t outside st idle runs unwritten
  let x := st.enterHalt .idle none
  obtain ⟨halves, resume, stays, bands, pages, window, job, document⟩ := st.enterHalt_plain .idle
  obtain ⟨state, cause, stopped⟩ := enterHalt_state st .idle none
  have may : (s.stream i).mayHalt .idle = true := by
    rw [Stream.mayHalt, show (s.stream i).holdOrFlow = true from runs]; rfl
  have entered : s.haltStream i .idle =
      ((s.setStream i x).setPorts (s.ports.stopWriting i)).joinFill i x.waitingHalves := by
    rw [State.haltStream, if_pos may, unwritten]
  have record : (s.haltStream i .idle).stream i = x := by rw [entered]; exact State.stream_setStream_same ..
  have ends : exec (.streamIdleExpiry i) s = .next (s.halt i .idle).finish := by
    show Host.Outcome.next (outsideReset s fun s => s.streamIdle i) = _
    rw [outsideReset_out outside, State.streamIdle, if_pos (by rw [show (s.stream i).idle = some t from idle]; rfl)]
  have halts : s.halt i .idle = (s.haltStream i .idle).postHalt i .idle := if_pos may
  obtain ⟨jobs, store, mem, wipe, cipher⟩ := halt_jobs_store (s := s) i .idle
  refine ⟨s.halt i .idle, (s.haltStream i .idle).haltReport i .idle, ends, ?_⟩
  have final : (s.halt i .idle).stream i = x := by rw [halts]; exact record
  have waits : (s.halt i .idle).pool.waiting = s.pool.waiting ++ x.waitingHalves.map fun b => (i, b) := by
    rw [halts, entered]; rfl
  have link : (s.halt i .idle).link = s.link.post (.streamHalt ((s.haltStream i .idle).haltReport i .idle)) := by
    rw [halts]
    show (s.haltStream i .idle).link.post _ = _
    rw [entered]; rfl
  rw [final, State.haltReport, record]
  refine ⟨state, cause, stopped, fun b filled => ⟨?_, ?_⟩, fun b other => ?_, resume, stays, bands, pages, window, job, document,
    ?_, rfl, rfl, bands, pages, fun k other => halt_stream_other _ other, mem, wipe, jobs, store, cipher, halt_images i .idle⟩
  · rw [halves, Half.awaitFill, if_pos filled]
  · rw [waits]
    refine List.mem_append_right _ (List.mem_map.mpr ⟨b, (Stream.mem_waitingHalves x b).mpr ?_, rfl⟩)
    rw [halves, Half.awaitFill, if_pos filled]
  · rw [halves, Half.awaitFill, if_neg other]
  · rw [link, State.haltReport, record]

end Sys2Proof.Machine
end

section
/-! PROOFS. The tamper events (O52). -/

namespace Sys2Proof.Machine

namespace State

variable {s : State} {i k : Fin 4} {n : Nat} {j : Job} {cause : HaltCause}

theorem inOrder_of_steady {s t : State} (steady : s.Steady t) (order : s.jobs.InOrder) : t.jobs.InOrder := by
  rw [inOrder_iff, steady.core, ← inOrder_iff]; exact order

/-! ## The halts of several streams before their notices -/

/-- The streams of the list halted, none told yet. -/
def haltStreams (s : State) (cause : HaltCause) (l : List (Fin 4)) : State := l.foldl (fun s i => s.haltStream i cause) s

theorem haltStream_setLink (s : State) (x : Link) (i : Fin 4) (cause : HaltCause) :
    (s.setLink x).haltStream i cause = (s.haltStream i cause).setLink x := by
  cases may : (s.stream i).mayHalt cause with
  | true => rw [haltStream, haltStream, if_pos may, if_pos (show ((s.setLink x).stream i).mayHalt cause = true from may)]; rfl
  | false =>
    have refused : ¬((s.stream i).mayHalt cause = true) := Bool.eq_false_iff.mp may
    rw [haltStream, haltStream, if_neg refused, if_neg (show ¬((s.setLink x).stream i).mayHalt cause = true from refused)]

theorem haltStreams_setLink (l : List (Fin 4)) (s : State) (x : Link) :
    (s.setLink x).haltStreams cause l = (s.haltStreams cause l).setLink x := by
  induction l generalizing s with
  | nil => rfl
  | cons i rest ih =>
    show ((s.setLink x).haltStream i cause).haltStreams cause rest = _
    rw [haltStream_setLink, ih]; rfl

theorem halt_setLink (s : State) (i : Fin 4) (cause : HaltCause) : ∃ x, s.halt i cause = (s.haltStream i cause).setLink x := by
  cases may : (s.stream i).mayHalt cause with
  | true => exact ⟨_, if_pos may⟩
  | false =>
    have refused : ¬((s.stream i).mayHalt cause = true) := Bool.eq_false_iff.mp may
    exact ⟨s.link, by rw [halt, haltStream, if_neg refused, if_neg refused]; rfl⟩

/-- The halts with their notices differ from the halts in the link alone. -/
theorem haltAll_setLink (l : List (Fin 4)) (s : State) : ∃ x, s.haltAll cause l = (s.haltStreams cause l).setLink x := by
  induction l generalizing s with
  | nil => exact ⟨s.link, rfl⟩
  | cons i rest ih =>
    obtain ⟨x, told⟩ := halt_setLink s i cause
    obtain ⟨y, later⟩ := ih (s.halt i cause)
    refine ⟨y, later.trans ?_⟩
    rw [told, haltStreams_setLink]; rfl

/-- What the halts of streams leave as it was. -/
structure HaltsOnly (s t : State) : Prop where
  images : s.SameBesidesImages t
  jobs : t.jobs = s.jobs
  store : t.store = s.store
  mem : t.pool.mem = s.pool.mem
  wipe : t.pool.wipe = s.pool.wipe

theorem haltsOnly_haltStreams (l : List (Fin 4)) (s : State) : s.HaltsOnly (s.haltStreams cause l) := by
  induction l generalizing s with
  | nil => exact ⟨.refl s, rfl, rfl, rfl, rfl⟩
  | cons i rest ih =>
    have first : s.HaltsOnly (s.haltStream i cause) := by
      refine ⟨haltStream_images i cause, ?_, ?_, ?_, ?_⟩ <;> unfold haltStream <;> split <;> rfl
    have later := ih (s.haltStream i cause)
    exact ⟨first.images.trans later.images, later.jobs.trans first.jobs, later.store.trans first.store,
      later.mem.trans first.mem, later.wipe.trans first.wipe⟩

/-! ## The parts of a tamper event -/

/-- The streams a tamper event halts. -/
def tamperHalted (s : State) : List (Fin 4) := fourIndices.filter fun i => (s.stream i).mayHalt .tamper

/-- The job list after a tamper event has cleared the scan complete marks. -/
theorem job_clearScanMarks (s : State) (n : Nat) :
    s.clearScanMarks.job n = (s.job n).map fun j => { j with scanComplete := false } :=
  Table.find_mapVal (α := Job) (β := Job) (fun j => { j with scanComplete := false }) s.jobs.jobs n

/-- Retained memory after a tamper event, and its notice. -/
def tamperBase (s : State) : State :=
  let t := (s.haltStreams .tamper s.tamperHalted).clearScanMarks.tamperRetained
  t.post (.tamper (t.tamperReport s.store.docs.length))

theorem steady_tamperBase (s : State) : s.Steady s.tamperBase :=
  (((steady_foldl (fun s i => s.steady_haltStream i .tamper) ..).trans (steady_clearScanMarks _)).trans
    (steady_tamperRetained _)).trans (steady_post ..)

/-- A stream after the halts of a tamper event. -/
theorem stream_tamperBase (s : State) (i : Fin 4) :
    ((s.stream i).mayHalt .tamper = true →
      (s.tamperBase.stream i).state = .halt ∧ (s.tamperBase.stream i).haltCause = some .tamper) ∧
    ((s.stream i).mayHalt .tamper = false → s.tamperBase.stream i = s.stream i) := by
  obtain ⟨x, told⟩ := haltAll_setLink (cause := .tamper) s.tamperHalted s
  have same : s.tamperBase.stream i = (s.haltAll .tamper s.tamperHalted).stream i := by rw [told]; rfl
  rw [same]
  refine ⟨fun may => ?_, fun refused => stream_haltAll_kept (.inr refused)⟩
  have listed : i ∈ s.tamperHalted := List.mem_filter.mpr ⟨mem_fourIndices i, may⟩
  obtain ⟨w, entered⟩ := stream_haltAll_halted listed may
  rw [entered]
  exact ⟨(enterHalt_state ..).1, (enterHalt_state ..).2.1⟩

theorem job_tamperBase (s : State) (n : Nat) : s.tamperBase.job n = (s.job n).map fun j => { j with scanComplete := false } := by
  have halts := haltsOnly_haltStreams (cause := .tamper) s.tamperHalted s
  have cleared : s.tamperBase.job n = (s.haltStreams .tamper s.tamperHalted).clearScanMarks.job n := rfl
  rw [cleared, job_clearScanMarks, job, halts.jobs]; rfl

/-- What a tamper event makes of retained memory, and what it leaves of the rest. -/
structure TamperRest (s t : State) : Prop where
  tamper : t.tamper = { latch := true, input := true }
  store : t.store = { s.store with docs := [] }
  meters : t.meters = { s.meters with tamperEvents := s.meters.tamperEvents.add 1 }
  house : t.house = s.house
  rates : t.rates = s.rates
  settings : t.settings = s.settings
  queue : t.queue = s.queue
  cart : t.cart = s.cart
  mem : t.pool.mem = s.pool.mem
  wipe : t.pool.wipe = s.pool.wipe

theorem tamperRest_retained (s : State) (n : Notice) : s.TamperRest (s.clearScanMarks.tamperRetained.post n) :=
  ⟨rfl, rfl, rfl, rfl, rfl, rfl, rfl, rfl, rfl, rfl⟩

theorem HaltsOnly.tamperRest {s t u : State} (halts : s.HaltsOnly t) (rest : t.TamperRest u) : s.TamperRest u where
  tamper := rest.tamper
  store := by rw [rest.store, halts.store]
  meters := by rw [rest.meters, halts.images.meters]
  house := rest.house.trans halts.images.house
  rates := rest.rates.trans halts.images.rates
  settings := rest.settings.trans halts.images.settings
  queue := rest.queue.trans halts.images.queue
  cart := rest.cart.trans halts.images.cart
  mem := rest.mem.trans halts.mem
  wipe := rest.wipe.trans halts.wipe

theorem tamperRest_tamperBase (s : State) : s.TamperRest s.tamperBase :=
  (haltsOnly_haltStreams (cause := .tamper) s.tamperHalted s).tamperRest (tamperRest_retained ..)

theorem TamperRest.stops {s t u : State} (base : s.TamperRest t) (only : t.StopsOnly u) : s.TamperRest u where
  tamper := only.tamper.trans base.tamper
  store := only.store.trans base.store
  meters := only.meters.trans base.meters
  house := only.house.trans base.house
  rates := only.rates.trans base.rates
  settings := only.settings.trans base.settings
  queue := only.queue.trans base.queue
  cart := only.cart.trans base.cart
  mem := only.mem.trans base.mem
  wipe := only.wipe.trans base.wipe

/-! ## The jobs a tamper event stops -/

theorem stopsOnly_tamperJob (halted : List (Fin 4)) (s : State) (n : Nat) : s.StopsOnly (tamperJob halted s n) := by
  unfold tamperJob
  dsimp only
  split
  · split
    · exact (s.stopsOnly_stopJob n .tamper).trans (stopsOnly_post _ rfl)
    · exact s.stopsOnly_stopJob n .tamper
  · exact s.stopsOnly_stopJob n .tamper

/-- The stop of a job by a tamper event differs from its stop in the link alone. -/
theorem tamperJob_setLink (halted : List (Fin 4)) (s : State) (n : Nat) :
    ∃ x, tamperJob halted s n = (s.stopJob n .tamper).setLink x := by
  unfold tamperJob
  dsimp only
  split
  · split
    · exact ⟨_, rfl⟩
    · exact ⟨_, rfl⟩
  · exact ⟨_, rfl⟩

theorem job_tamperJob (halted : List (Fin 4)) (s : State) (n m : Nat) :
    (tamperJob halted s n).job m = if m = n then (s.job m).map (·.stopped .tamper) else s.job m := by
  obtain ⟨x, told⟩ := tamperJob_setLink halted s n
  rw [told]
  exact job_stopJob s n .tamper m

theorem tamperJob_streams (halted : List (Fin 4)) (s : State) (n : Nat) :
    (tamperJob halted s n).streams = s.streams ∧ (tamperJob halted s n).accounts = s.accounts := by
  obtain ⟨x, told⟩ := tamperJob_setLink halted s n
  rw [told]
  exact ⟨streams_stopJob rfl s n, (stopJob_images n .tamper).accounts⟩

theorem tamperJobs_streams (halted : List (Fin 4)) (l : List Nat) (s : State) :
    (l.foldl (tamperJob halted) s).streams = s.streams ∧ (l.foldl (tamperJob halted) s).accounts = s.accounts := by
  induction l generalizing s with
  | nil => exact ⟨rfl, rfl⟩
  | cons n rest ih =>
    obtain ⟨streams, accounts⟩ := tamperJob_streams halted s n
    exact ⟨(ih _).1.trans streams, (ih _).2.trans accounts⟩

/-- STREAM_HALT for the streams of a list. -/
def tellHalts (s : State) (l : List (Fin 4)) : State := l.foldl (fun s i => s.postHalt i .tamper) s

theorem stopsOnly_tellHalts (s : State) (l : List (Fin 4)) : s.StopsOnly (s.tellHalts l) :=
  StopsOnly.foldl (fun s _ => stopsOnly_post s rfl) l s

theorem tellHalts_setLink (l : List (Fin 4)) (s : State) : ∃ x, s.tellHalts l = s.setLink x := by
  induction l generalizing s with
  | nil => exact ⟨s.link, rfl⟩
  | cons i rest ih =>
    obtain ⟨x, told⟩ := ih (s.postHalt i .tamper)
    exact ⟨x, told.trans rfl⟩

/-- The jobs a tamper event stops. -/
def tamperStopped (s : State) : List Nat := (s.jobList.filter Job.stopsOnTamper).map (·.number)

theorem mem_tamperStopped (order : s.jobs.InOrder) (present : s.job n = some j) :
    n ∈ s.tamperStopped ↔ j.stopsOnTamper = true := by
  simp only [tamperStopped, List.mem_map, List.mem_filter, mem_jobList_iff order]
  constructor
  · rintro ⟨x, ⟨there, stops⟩, rfl⟩
    exact Option.some.inj (present.symm.trans there) ▸ stops
  · intro stops
    have number := number_of_job order present
    exact ⟨j, ⟨number.symm ▸ present, stops⟩, number⟩

/-- The streams whose halt is told with no job. -/
def tamperAlone (s : State) : List (Fin 4) :=
  s.tamperHalted.filter fun i => !((s.jobList.filter Job.stopsOnTamper).filterMap (·.stream)).contains i

/-- A tamper event but for the end of the session. -/
def tamperStops (s : State) : State := (s.tamperStopped.foldl (tamperJob s.tamperHalted) s.tamperBase).tellHalts s.tamperAlone

theorem tamperTaken_eq (s : State) : s.tamperTaken = s.tamperStops.endSession .tamper := rfl

theorem stopsOnly_tamperStops (s : State) : s.tamperBase.StopsOnly s.tamperStops :=
  (StopsOnly.foldl (stopsOnly_tamperJob _) ..).trans (stopsOnly_tellHalts ..)

theorem tamperStops_streams (s : State) :
    s.tamperStops.streams = s.tamperBase.streams ∧ s.tamperStops.accounts = s.accounts := by
  obtain ⟨x, told⟩ := tellHalts_setLink s.tamperAlone (s.tamperStopped.foldl (tamperJob s.tamperHalted) s.tamperBase)
  obtain ⟨streams, accounts⟩ := tamperJobs_streams s.tamperHalted s.tamperStopped s.tamperBase
  have base : s.tamperBase.accounts = s.accounts := (haltsOnly_haltStreams (cause := .tamper) s.tamperHalted s).images.accounts
  rw [tamperStops, told]
  exact ⟨streams, accounts.trans base⟩

theorem job_tamperStops (order : s.jobs.InOrder) (present : s.job n = some j) :
    s.tamperStops.job n = some { (if j.stopsOnTamper = true then j.stopped .tamper else j) with scanComplete := false } := by
  obtain ⟨x, told⟩ := tellHalts_setLink s.tamperAlone (s.tamperStopped.foldl (tamperJob s.tamperHalted) s.tamperBase)
  have untold : s.tamperStops.job n = (s.tamperStopped.foldl (tamperJob s.tamperHalted) s.tamperBase).job n := by
    rw [tamperStops, told]; rfl
  rw [untold, job_foldl_stopped (job_tamperJob _), job_tamperBase, present]
  by_cases stops : j.stopsOnTamper = true
  · have active : j.active = true := (Bool.and_eq_true_iff.mp stops).1
    have cleared : ({ j with scanComplete := false } : Job).active = true := active
    rw [if_pos ((mem_tamperStopped order present).mpr stops), if_pos stops, Job.stopped_of_active active]
    exact congrArg some (Job.stopped_of_active cleared .tamper)
  · rw [if_neg (mt (mem_tamperStopped order present).mp stops), if_neg stops]; rfl

/-- After the stops no stream is in HOLD or FLOW: the end of the session finds none to halt. -/
theorem still_tamperStops (s : State) (i : Fin 4) : (s.tamperStops.stream i).holdOrFlow = false := by
  have same : s.tamperStops.stream i = s.tamperBase.stream i := congrArg (·.get i) s.tamperStops_streams.1
  obtain ⟨halts, keeps⟩ := s.stream_tamperBase i
  rw [same]
  cases may : (s.stream i).mayHalt .tamper with
  | true => simp [Stream.holdOrFlow, (halts may).1]
  | false => rw [keeps may]; exact (Bool.or_eq_false_iff.mp may).1

/-- After the stops no BOX_PRINT job is in OPEN or RUNNING: the end of the session finds none to stop. -/
theorem boxRuns_tamperStops (j : Job) :
    boxRuns { (if j.stopsOnTamper = true then j.stopped .tamper else j) with scanComplete := false } = false := by
  by_cases stops : j.stopsOnTamper = true
  · rw [if_pos stops]
    exact Bool.and_eq_false_imp.mpr fun active => absurd active (Bool.eq_false_iff.mp (j.active_stopped .tamper))
  · rw [if_neg stops]
    by_contra runs
    obtain ⟨active, box⟩ := Bool.and_eq_true_iff.mp (Bool.not_eq_false _ ▸ runs)
    exact stops (Bool.and_eq_true_iff.mpr ⟨active, Bool.or_eq_true_iff.mpr (.inr box)⟩)

theorem job_tamperTaken (order : s.jobs.InOrder) (present : s.job n = some j) :
    s.tamperTaken.job n = some { (if j.stopsOnTamper = true then j.stopped .tamper else j) with scanComplete := false } := by
  have before := job_tamperStops order present
  rw [tamperTaken_eq]
  cases active : s.tamperStops.session with
  | none => rw [endSession_none active, before]
  | some se =>
    have ordered : s.tamperStops.jobs.InOrder :=
      s.stopsOnly_tamperStops.inOrder (inOrder_of_steady s.steady_tamperBase order)
    rw [job_endSession active ordered .tamper before, if_neg]
    rintro ⟨_, runs⟩
    rw [boxRuns_tamperStops] at runs
    cases runs

theorem stream_tamperTaken (s : State) (i : Fin 4) : s.tamperTaken.stream i = s.tamperBase.stream i := by
  have before : s.tamperStops.stream i = s.tamperBase.stream i := congrArg (·.get i) s.tamperStops_streams.1
  rw [tamperTaken_eq]
  cases active : s.tamperStops.session with
  | none => rw [endSession_none active, before]
  | some se => rw [(stopsOnly_endSession active .tamper).streams i (s.still_tamperStops i)]; exact before

theorem tamperRest_tamperTaken (s : State) : s.TamperRest s.tamperTaken := by
  have before := s.tamperRest_tamperBase.stops s.stopsOnly_tamperStops
  rw [tamperTaken_eq]
  cases active : s.tamperStops.session with
  | none => rw [endSession_none active]; exact before
  | some se =>
    have closed : s.TamperRest (s.tamperStops.sessionClosed .tamper se.position) :=
      { tamper := before.tamper, store := before.store, meters := before.meters, house := before.house,
        rates := before.rates, settings := before.settings, queue := before.queue, cart := before.cart,
        mem := before.mem, wipe := before.wipe }
    exact closed.stops (stopsOnly_endSession active .tamper)

end State

theorem Job.stopsOnTamper_iff (j : Job) :
    j.stopsOnTamper = true ↔ (j.kind = .scan ∨ j.kind = .boxPrint) ∧ (j.state = .opened ∨ j.state = .running) := by
  simp [Job.stopsOnTamper, Job.active, and_comm]

theorem Job.stopped_of_tamper (j : Job) : (if j.stopsOnTamper = true then j.stopped .tamper else j) =
    if (j.kind = .scan ∨ j.kind = .boxPrint) ∧ (j.state = .opened ∨ j.state = .running)
      then { j with state := .stopping, stopCause := some .tamper } else j := by
  by_cases stops : j.stopsOnTamper = true
  · rw [if_pos stops, if_pos (j.stopsOnTamper_iff.mp stops), Job.stopped_of_active (Bool.and_eq_true_iff.mp stops).1]
  · rw [if_neg stops, if_neg (mt j.stopsOnTamper_iff.mpr stops)]

/-- The answer to TAMPER CLEAR in an admin's session. -/
def State.clearTamper (s : State) : Served :=
  if s.tamper.input then refuse s .busy
  else okWith (s.setTamper { s.tamper with latch := false }) (flag s.tamper.latch)

theorem State.clearTamper_released {s : State} (low : s.tamper.input = false) : s.clearTamper =
    okWith (s.setTamper { latch := false, input := false }) [if s.tamper.latch then 1 else 0] := by
  rw [State.clearTamper, if_neg (by rw [low]; decide)]
  exact congrArg (fun input => okWith (s.setTamper { latch := false, input := input }) [if s.tamper.latch then 1 else 0]) low

/-- Settles O52. -/
theorem tamperErasesAndHalts : Obligations.TamperErasesAndHalts := by
  intro s
  refine ⟨fun outside released order => ?_, rfl, fun serving other => ?_,
    fun se serving active admin => ⟨fun low => ?_, fun high => ?_⟩⟩
  · have ends : exec .tamperEvent s = .next s.tamperTaken.finish := by
      show Host.Outcome.next s.tamperAsserted = _
      rw [State.tamperAsserted, released, outside]; rfl
    obtain ⟨tamper, store, meters, house, rates, settings, queue, cart, mem, wipe⟩ := s.tamperRest_tamperTaken
    refine ⟨s.tamperTaken, ends, tamper, store, meters, State.session_endSession .., fun i runs => ?_, fun i still undone => ?_,
      fun n j present => ?_, ?_, house, rates, settings, queue, cart, mem, wipe⟩
    · rw [s.stream_tamperTaken i]
      refine (s.stream_tamperBase i).1 ?_
      rcases runs with flows | done
      · rw [Stream.mayHalt, flows]; rfl
      · rw [Stream.mayHalt, done]; exact Bool.or_true _
    · rw [s.stream_tamperTaken i]
      exact (s.stream_tamperBase i).2 (by simp [Stream.mayHalt, still, undone])
    · rw [State.job_tamperTaken order present, Job.stopped_of_tamper]
    · exact (State.accounts_endSession ..).trans s.tamperStops_streams.2
  · exact requestFrame_no serving (asAdmin_other other State.clearTamper)
  · refine requestFrame_ok serving ?_
    exact (asAdmin_admin active admin State.clearTamper).trans (State.clearTamper_released (s := s.used se) low)
  · refine requestFrame_no serving ?_
    exact (asAdmin_admin active admin State.clearTamper).trans (if_pos high)

end Sys2Proof.Machine
end

section
/-! PROOFS. What the slots do under new limits, and FACTORY CLEAR (O54). -/

namespace Sys2Proof.Machine

theorem JobTable.eq_of_fields {a b : JobTable} (jobs : a.jobs = b.jobs) (lastNumber : a.lastNumber = b.lastNumber) : a = b := by
  cases a; cases b
  obtain rfl := jobs
  obtain rfl := lastNumber
  rfl

namespace State

/-- Only the cartridge unit, the meters and the link are different. -/
def SlotWork (s t : State) : Prop := ∃ cart meters link, t = ((s.setCart cart).setMeters meters).setLink link

namespace SlotWork

variable {s t u : State}

theorem refl (s : State) : s.SlotWork s := ⟨s.cart, s.meters, s.link, rfl⟩

theorem trans (first : s.SlotWork t) (second : t.SlotWork u) : s.SlotWork u := by
  obtain ⟨cart, meters, link, rfl⟩ := first
  obtain ⟨cart', meters', link', rfl⟩ := second
  exact ⟨cart', meters', link', rfl⟩

end SlotWork

variable {s t : State} {i : Fin 4} {se : Session}

theorem SlotsOnly.work (only : s.SlotsOnly t) : s.SlotWork t := by
  obtain ⟨slots, moved, link, rfl⟩ := only
  exact ⟨{ s.cart with slots := slots, levelMoved := moved }, s.meters, link, rfl⟩

/-! ## What a slot does under a new verify interval or recheck period -/

theorem slotsOnly_verifyPast (s : State) (i : Fin 4) : s.SlotsOnly (s.verifyPast i) := (oneSlot_changeSlot ..).only

theorem slotsOnly_recheckPast (s : State) (i : Fin 4) : s.SlotsOnly (s.recheckPast i) := by
  unfold recheckPast recheckExpired
  split
  · split
    · exact (oneSlot_changeSlot ..).only
    · exact .refl s
  · exact .refl s

/-! ## The slots examined under a new fail limit (R102) -/

theorem slotWork_rejectFalse (s : State) (i : Fin 4) (serial : Serial) : s.SlotWork (s.rejectFalse i serial) :=
  SlotWork.trans ⟨{ s.cart with
    snapshots := keepSnapshot s.cart.snapshots (s.snapshot i serial)
    rejectList := joinRejectList s.cart.rejectList serial }, s.meters.addAll { cartridgesRejected := 1 }, s.link, rfl⟩
    (slotsOnly_rejectEach ..).work

theorem slotWork_examineSlot (x : State × List (Fin 4 × CartNews)) (i : Fin 4) : x.1.SlotWork (examineSlot x i).1 := by
  unfold examineSlot
  dsimp only
  split
  · split
    · exact .refl _
    · exact slotWork_rejectFalse ..
  · exact .refl _

theorem slotWork_examined (l : List (Fin 4)) (x : State × List (Fin 4 × CartNews)) : x.1.SlotWork (l.foldl examineSlot x).1 := by
  induction l generalizing x with
  | nil => exact .refl _
  | cons i rest ih => exact (slotWork_examineSlot x i).trans (ih _)

theorem slotWork_examineSlots (s : State) : s.SlotWork s.examineSlots :=
  (slotWork_examined fourIndices (s, [])).trans (slotsOnly_tellCarts ..).work

/-- Where no slot meets the fail limit, the examination changes nothing. -/
theorem examineSlots_none (below : ∀ i, (s.slot i).meetsLimit s.settings.failLimit = false) : s.examineSlots = s := by
  have each : ∀ i, examineSlot (s, []) i = (s, []) := fun i => if_neg (by rw [below i]; decide)
  have all : fourIndices.foldl examineSlot (s, []) = (s, []) := by
    simp only [fourIndices, List.foldl_cons, List.foldl_nil, each]
  rw [examineSlots, all]
  rfl

theorem slotsOnly_timersUnderDefaults (s : State) :
    s.SlotsOnly (fourIndices.foldl recheckPast (fourIndices.foldl verifyPast s)) :=
  (SlotsOnly.foldl slotsOnly_verifyPast ..).trans (SlotsOnly.foldl slotsOnly_recheckPast ..)

theorem slotWork_slotsUnderDefaults (s : State) : s.SlotWork s.slotsUnderDefaults :=
  s.slotWork_examineSlots.trans (slotsOnly_timersUnderDefaults _).work

/-! ## The end of the session before a factory clear -/

/-- What the end of a session leaves whatever its cause. -/
theorem endSession_frame (s : State) (cause : SessionEndCause) :
    let t := s.endSession cause
    t.store = s.store ∧ t.cart = s.cart ∧ t.queue = s.queue ∧ t.tamper = s.tamper ∧ t.pool.mem = s.pool.mem ∧
      t.pool.wipe = s.pool.wipe ∧ t.jobs.lastNumber = s.jobs.lastNumber := by
  intro t
  cases active : s.session with
  | none =>
    have same : t = s := endSession_none active cause
    rw [same]
    exact ⟨rfl, rfl, rfl, rfl, rfl, rfl, rfl⟩
  | some se =>
    have only := stopsOnly_endSession active cause
    exact ⟨only.store, only.cart, only.queue, only.tamper, only.mem, only.wipe, only.lastNumber⟩

/-- The end of a session leaves an empty job table as it is. -/
theorem endSession_jobs_nil (empty : s.jobs.jobs = []) (cause : SessionEndCause) : (s.endSession cause).jobs = s.jobs := by
  have none_ := jobs_eq_nil_of_steady (s.steady_endSession cause) empty
  have number : (s.endSession cause).jobs.lastNumber = s.jobs.lastNumber := (s.endSession_frame cause).2.2.2.2.2.2
  exact JobTable.eq_of_fields (none_.trans empty.symm) number

/-- The slots of a factory clear meet their limits as they did before it. -/
theorem slot_retainedDefaults (s : State) (i : Fin 4) :
    (s.endSession .factoryClear).retainedDefaults.slot i = s.slot i :=
  congrArg (fun x => x.slots.get i) (s.endSession_frame .factoryClear).2.1

theorem factoryCleared_lists (below : ∀ i, (s.slot i).meetsLimit 6 = false) :
    s.factoryCleared.meters = {} ∧ s.factoryCleared.cart.rejectList = [] ∧ s.factoryCleared.cart.snapshots = [] := by
  have kept : (s.endSession .factoryClear).retainedDefaults.examineSlots = (s.endSession .factoryClear).retainedDefaults :=
    examineSlots_none fun i => by rw [slot_retainedDefaults]; exact below i
  have only := slotsOnly_timersUnderDefaults (s.endSession .factoryClear).retainedDefaults
  rw [factoryCleared, slotsUnderDefaults, kept]
  exact ⟨only.meters, only.rejectList, only.snapshots⟩

theorem serveFactoryClear_jobs (active : s.session = some se) (admin : s.isAdmin = true) (jobs : s.jobs.jobs ≠ []) :
    serveFactoryClear [] s = refuse (s.used se) .inUse := by
  rw [serveFactoryClear, parseEmpty_nil, withParsed_some, if_pos admin, if_neg (by simpa using jobs), s.touchSession_some active]
  rfl

theorem serveFactoryClear_idle (admin : s.isAdmin = true) (empty : s.jobs.jobs = []) :
    serveFactoryClear [] s = okWith s.factoryCleared (be 1 s.store.docs.length) := by
  rw [serveFactoryClear, parseEmpty_nil, withParsed_some, if_pos admin, if_pos (by rw [empty]; rfl)]

end State

/-- Settles O54. -/
theorem factoryClearRestoresDefaults : Obligations.FactoryClearRestoresDefaults := by
  intro s se serving active admin
  refine ⟨fun jobs => requestFrame_no serving (State.serveFactoryClear_jobs active admin jobs), fun empty => ?_⟩
  have ends : exec (.factoryClear []) s = s.factoryCleared.answersOk 163 (be 1 s.store.docs.length) :=
    requestFrame_ok serving (State.serveFactoryClear_idle admin empty)
  obtain ⟨store, cart, queue, tamper, mem, wipe, _⟩ := s.endSession_frame .factoryClear
  have jobs := State.endSession_jobs_nil empty .factoryClear
  have closed := s.session_endSession .factoryClear
  have lists := State.factoryCleared_lists (s := s)
  refine ⟨s.factoryCleared, ends, ?_⟩
  obtain ⟨c, m, l, slots⟩ := State.slotWork_slotsUnderDefaults (s.endSession .factoryClear).retainedDefaults
  have final : s.factoryCleared = _ := slots
  refine ⟨?_, ?_, ?_, ?_, ?_, ?_, ?_, lists, ?_, ?_, ?_, ?_, ?_⟩
  all_goals rw [final]
  · rfl
  · rfl
  · exact closed
  · rfl
  · rfl
  · rfl
  · exact congrArg (·.lastNumber) store
  · exact jobs
  · exact queue
  · exact tamper
  · exact mem
  · exact wipe

end Sys2Proof.Machine
end

section
/-! PROOFS. SETTING SET (O53). -/

namespace Sys2Proof.Machine

/-! ## The request's fields -/

theorem parseSettingSet_be (k : Fin 13) {v : Nat} (fits : v < 4294967296) (policy : k = 11 → v ≤ 1) :
    parseSettingSet (be 1 k.val ++ be 4 v) = some { number := k, value := v } := by
  have small : (BitVec.ofNat 8 (k.val / 256 ^ 0)).toNat = k.val := by
    rw [pow_zero, Nat.div_one, toNat_be_one (by omega)]
  have value : num (be 4 v) = v := num_be_of_lt (n := 4) fits
  have allowed : ¬ (BitVec.ofNat 8 (k.val / 256 ^ 0) = 11 ∧ 1 < v) := by
    rintro ⟨eleven, more⟩
    have number : k.val = 11 := by rw [← small, eleven]; rfl
    exact absurd (policy (Fin.ext number)) (by omega)
  have layout : parseSettingSet (be 1 k.val ++ be 4 v) =
      if h : (BitVec.ofNat 8 (k.val / 256 ^ 0)).toNat < 13 then
        if BitVec.ofNat 8 (k.val / 256 ^ 0) = 11 ∧ 1 < num (be 4 v) then none
        else some { number := ⟨(BitVec.ofNat 8 (k.val / 256 ^ 0)).toNat, h⟩, value := num (be 4 v) }
      else none := rfl
  rw [layout, dif_pos (by omega), value, if_neg allowed]
  exact congrArg (fun n => some ({ number := n, value := v } : SettingRequest)) (Fin.ext small)

/-! ## The table of settings -/

namespace Settings

theorem code_policy {v : Nat} (bit : v ≤ 1) : (if v = 0 then BoxPolicy.keep else BoxPolicy.recycle).code = v := by
  interval_cases v <;> rfl

/-- A setting written reads back. -/
theorem get_put_same (st : Settings) (k : Fin 13) {v : Nat} (policy : k = 11 → v ≤ 1) : (st.put k v).get k = v := by
  match k with
  | 0 | 1 | 2 | 3 | 4 | 5 | 6 | 7 | 8 | 9 | 10 | 12 => rfl
  | 11 => exact code_policy (policy rfl)

/-- The other settings stay, but for the stop level under a new caution level. -/
theorem get_put_other (st : Settings) {k m : Fin 13} (v : Nat) (other : m ≠ k) (free : ¬ (k = 0 ∧ m = 1)) :
    (st.put k v).get m = st.get m := by
  fin_cases k <;> fin_cases m <;> trivial

/-- A setting written as it was leaves the stop level, which lies below the caution level. -/
theorem stop_of_caution {st : Settings} (range : st.InRange) : st.stop = min st.stop st.caution :=
  (Nat.min_eq_left range.2.1).symm

end Settings

namespace State

/-! ## What a changed setting leaves -/

/-- What no act of a changed setting touches: balances, arrears, PINs and states of accounts, and the units named. -/
structure SettingKept (s t : State) : Prop where
  settings : t.settings = s.settings
  house : t.house = s.house
  rates : t.rates = s.rates
  queue : t.queue = s.queue
  tamper : t.tamper = s.tamper
  mem : t.pool.mem = s.pool.mem
  accounts : ∀ q, (t.account q).map Account.unstaged = (s.account q).map Account.unstaged

namespace SettingKept

variable {s t u : State}

theorem refl (s : State) : s.SettingKept s := ⟨rfl, rfl, rfl, rfl, rfl, rfl, fun _ => rfl⟩

theorem trans (first : s.SettingKept t) (second : t.SettingKept u) : s.SettingKept u where
  settings := second.settings.trans first.settings
  house := second.house.trans first.house
  rates := second.rates.trans first.rates
  queue := second.queue.trans first.queue
  tamper := second.tamper.trans first.tamper
  mem := second.mem.trans first.mem
  accounts q := (second.accounts q).trans (first.accounts q)

end SettingKept

variable {s t : State}

theorem StopsOnly.settingKept (only : s.StopsOnly t) : s.SettingKept t :=
  ⟨only.settings, only.house, only.rates, only.queue, only.tamper, only.mem, only.accounts⟩

theorem SlotWork.settingKept (work : s.SlotWork t) : s.SettingKept t ∧ t.store = s.store := by
  obtain ⟨cart, meters, link, rfl⟩ := work
  exact ⟨⟨rfl, rfl, rfl, rfl, rfl, rfl, fun _ => rfl⟩, rfl⟩

theorem settingKept_sessionClosed (s : State) (cause : SessionEndCause) (p : Nat) : s.SettingKept (s.sessionClosed cause p) :=
  ⟨rfl, rfl, rfl, rfl, rfl, rfl, fun _ => rfl⟩

theorem settingKept_sessionPast (s : State) : s.SettingKept s.sessionPast ∧ s.sessionPast.store = s.store := by
  unfold sessionPast
  split
  · cases active : s.session with
    | none => rw [endSession_none active]; exact ⟨.refl s, rfl⟩
    | some se =>
      have only := stopsOnly_endSession active .idle
      exact ⟨(s.settingKept_sessionClosed .idle se.position).trans only.settingKept, only.store⟩
  · exact ⟨.refl s, rfl⟩

theorem stopsOnly_streamPast (s : State) (i : Fin 4) : s.StopsOnly (s.streamPast i) := by
  unfold streamPast
  split
  · exact s.stopsOnly_halt i (by decide)
  · exact .refl s

/-! ## The jobs removed by a lowered drain limit -/

/-- From `s` to `t` jobs may have left the table, and no document has changed that no job of `s` names. -/
structure DrainKept (s t : State) : Prop where
  kept : s.SettingKept t
  jobs : ∀ n j, t.job n = some j → ∃ x, s.job n = some x ∧ x.document = j.document
  docs : ∀ d x, s.document d = some x → (∀ n j, s.job n = some j → j.document ≠ some d) → t.document d = some x

theorem DrainKept.refl (s : State) : s.DrainKept s := ⟨.refl s, fun _ j present => ⟨j, present, rfl⟩, fun _ _ present _ => present⟩

theorem DrainKept.trans {u : State} (first : s.DrainKept t) (second : t.DrainKept u) : s.DrainKept u where
  kept := first.kept.trans second.kept
  jobs n j present := by
    obtain ⟨x, there, same⟩ := second.jobs n j present
    obtain ⟨y, before, same'⟩ := first.jobs n x there
    exact ⟨y, before, same'.trans same⟩
  docs d x present unnamed := by
    refine second.docs d x (first.docs d x present unnamed) fun n j there names => ?_
    obtain ⟨y, before, same⟩ := first.jobs n j there
    exact unnamed n y before (same.trans names)

theorem document_eraseDocument_other {n m : Nat} (other : m ≠ n) : (s.eraseDocument n).document m = s.document m := by
  show (s.store.docs.filter fun d => d.number != n).find? (fun d => d.number == m) = _
  rw [List.find?_filter]
  refine congrArg (fun p => s.store.docs.find? p) (funext fun d => ?_)
  by_cases same : d.number = m
  · simp [same, other]
  · simp [same]

theorem document_releaseDocument {j : Job} {d : Nat} (unnamed : j.document ≠ some d) :
    (s.releaseDocument j).document d = s.document d := by
  unfold releaseDocument
  split
  · rfl
  · next e names =>
    have other : d ≠ e := fun same => unnamed (same ▸ names)
    split
    · exact document_eraseDocument_other other
    · exact (s.document_changeDocument (f := fun x => { x with job := none }) (fun _ => rfl) e d).trans (if_neg other)
    · rfl
    · rfl

theorem document_stopped (j : Job) (cause : StopCause) : (j.stopped cause).document = j.document := by
  cases active : j.active with
  | true => rw [Job.stopped_of_active active]
  | false => rw [Job.stopped_of_inactive active]

theorem drainKept_dropJob (s : State) (j : Job) (e : EndMark) (o : Option DocOutcome) : s.DrainKept (s.dropJob j e o) where
  kept := SettingKept.trans (t := s.jobGone j e o) ⟨rfl, rfl, rfl, rfl, rfl, rfl, fun _ => rfl⟩ (s.stopsOnly_dropJob j e o).settingKept
  jobs n x present := by
    have maps := (s.stopsOnly_dropJob j e o).job_map document_stopped n
    rw [job_jobGone, present] at maps
    split at maps
    · cases maps
    · exact Option.map_eq_some_iff.mp maps.symm
  docs d x present _ := ((s.stopsOnly_dropJob j e o).document d).trans present

theorem drainKept_releaseDocument {n : Nat} {j : Job} (present : s.job n = some j) : s.DrainKept (s.releaseDocument j) where
  kept := by rw [releaseDocument_eq]; exact ⟨rfl, rfl, rfl, rfl, rfl, rfl, fun _ => rfl⟩
  jobs m x there := by
    rw [releaseDocument_eq] at there
    exact ⟨x, there, rfl⟩
  docs d x there unnamed := (document_releaseDocument (unnamed n j present)).trans there

theorem drainKept_expireDrain (s : State) (n : Nat) : s.DrainKept (s.expireDrain n) := by
  unfold expireDrain
  split
  · exact .refl s
  · next j present =>
    split
    · unfold removeJob
      split
      · exact (drainKept_releaseDocument present).trans (drainKept_dropJob ..)
      · exact drainKept_dropJob ..
    · exact .refl s

theorem drainKept_foldl (l : List Nat) (s : State) : s.DrainKept (l.foldl expireDrain s) := by
  induction l generalizing s with
  | nil => exact .refl s
  | cons n rest ih => exact (s.drainKept_expireDrain n).trans (ih _)

/-! ## The acts together -/

/-- The act of every setting but the drain limit. -/
theorem settingActs_kept (s : State) {k : Fin 13} (lowered : Bool) (other : k ≠ 10) :
    s.SettingKept (s.settingActs k lowered) ∧ (s.settingActs k lowered).store = s.store := by
  have still : s.SettingKept s ∧ s.store = s.store := ⟨.refl s, rfl⟩
  have stages : s.SettingKept s.reevaluateAll ∧ s.reevaluateAll.store = s.store :=
    ⟨s.stopsOnly_reevaluateAll.settingKept, s.stopsOnly_reevaluateAll.store⟩
  unfold settingActs
  split
  · exact stages
  · exact stages
  · exact stages
  · split
    · exact s.settingKept_sessionPast
    · exact still
  · split
    · exact (SlotsOnly.foldl slotsOnly_verifyPast _ s).work.settingKept
    · exact still
  · split
    · exact s.slotWork_examineSlots.settingKept
    · exact still
  · split
    · exact (SlotsOnly.foldl slotsOnly_recheckPast _ s).work.settingKept
    · exact still
  · split
    · have only := StopsOnly.foldl stopsOnly_streamPast fourIndices s
      exact ⟨only.settingKept, only.store⟩
    · exact still
  · exact absurd rfl other
  · exact still

theorem settingActs_drains (s : State) (lowered : Bool) : s.DrainKept (s.settingActs 10 lowered) := by
  show s.DrainKept (if lowered then s.drainsPast else s)
  split
  · exact drainKept_foldl _ s
  · exact .refl s

/-- The setting written, and then its act. -/
theorem changeSetting_acts {k : Fin 13} {v : Nat} (moved : v ≠ s.settings.get k) :
    let t := s.changeSetting k v
    (s.setSettings (s.settings.put k v)).SettingKept t ∧ (k ≠ 10 → t.store = s.store) ∧
      (∀ d x, s.document d = some x → (∀ n j, s.job n = some j → j.document ≠ some d) → t.document d = some x) := by
  intro t
  have acts : t = (s.setSettings (s.settings.put k v)).settingActs k (decide (v < s.settings.get k)) := if_neg moved
  rw [acts]
  by_cases drain : k = 10
  · subst drain
    have drains := settingActs_drains (s.setSettings (s.settings.put 10 v)) (decide (v < s.settings.get 10))
    exact ⟨drains.kept, fun other => absurd rfl other, drains.docs⟩
  · obtain ⟨kept, store⟩ := settingActs_kept (s.setSettings (s.settings.put k v)) (decide (v < s.settings.get k)) drain
    refine ⟨kept, fun _ => store, fun d x present _ => ?_⟩
    exact (congrArg (fun x => x.docs.find? fun y => y.number == d) store).trans present

theorem changeSetting_same {k : Fin 13} {v : Nat} (same : v = s.settings.get k) : s.changeSetting k v = s := if_pos same

theorem serveSettingSet_admin {b : List Byte} {r : SettingRequest} (spells : parseSettingSet b = some r) (admin : s.isAdmin = true) :
    serveSettingSet b s = okWith (s.changeSetting r.number (s.settings.clamp r.number r.value)).touchSession
      (s.settingReply (s.changeSetting r.number (s.settings.clamp r.number r.value)).touchSession r) := by
  rw [serveSettingSet, spells, withParsed_some, if_pos admin]

end State

/-- The statement's account fields are among those that no stage is part of. -/
theorem Account.unstaged_map {x y : Option Account} (same : x.map Account.unstaged = y.map Account.unstaged) :
    x.map (fun a => (a.balance, a.arrears, a.pin, a.state)) = y.map fun a => (a.balance, a.arrears, a.pin, a.state) := by
  have fields := congrArg (Option.map fun a : Account => (a.balance, a.arrears, a.pin, a.state)) same
  rw [Option.map_map, Option.map_map] at fields
  exact fields

/-- Settles O53. -/
theorem settingsAreClamped : Obligations.SettingsAreClamped := by
  intro s se k v serving active admin fits policy range top bottom taken
  have clamp : s.settings.clamp k v = taken := by
    fin_cases k <;> rfl
  have bit : k = 11 → taken ≤ 1 := by
    rintro rfl
    exact max_le (Nat.zero_le _) (min_le_left _ _)
  let t := s.changeSetting k taken
  have ends : exec (.settingSet (be 1 k.val ++ be 4 v)) s = t.touchSession.answersOk 160
      (be 1 k.val ++ be 4 (s.settings.get k) ++ be 4 taken ++ [if taken = v then 0 else 1] ++ be 4 t.touchSession.settings.stop) := by
    refine requestFrame_ok serving ((State.serveSettingSet_admin (parseSettingSet_be k fits policy) admin).trans ?_)
    rw [State.settingReply]
    dsimp only
    rw [clamp, flag_clamped (taken := taken) (sent := v) (moved := ¬ taken = v) Iff.rfl]
    by_cases kept : taken = v
    · rw [if_pos kept, decide_eq_false (not_not.mpr kept)]; rfl
    · rw [if_neg kept, decide_eq_true kept]; rfl
  refine ⟨t.touchSession, ends, ?_⟩
  by_cases same : taken = s.settings.get k
  · have stays : t = s := State.changeSetting_same same
    have used : t.touchSession = s.used se := by rw [stays, s.touchSession_some active]; rfl
    rw [used]
    refine ⟨same.symm, fun _ _ _ => rfl, fun caution => ?_, range, fun _ => rfl, fun _ => rfl, fun _ => rfl, fun _ _ present _ => present,
      rfl, rfl, rfl, rfl, rfl⟩
    subst caution
    rw [same]
    exact Settings.stop_of_caution range
  · obtain ⟨kept, store, docs⟩ := State.changeSetting_acts same
    have settings : t.settings = s.settings.put k taken := kept.settings
    refine ⟨?_, fun m other free => ?_, fun caution => ?_, ?_, fun h => absurd h same, fun q => Account.unstaged_map (kept.accounts q),
      store, docs, kept.house, kept.rates, kept.queue, kept.tamper, kept.mem⟩
    · show t.settings.get k = taken
      rw [settings]; exact Settings.get_put_same _ k bit
    · show t.settings.get m = s.settings.get m
      rw [settings]; exact Settings.get_put_other _ _ other free
    · show t.settings.stop = _
      rw [settings]; subst caution; rfl
    · show t.settings.InRange
      rw [settings, ← clamp]; exact State.inRange_put range k v

end Sys2Proof.Machine
end

section
/-! PROOFS. The supply reset, its end, and what comes between (O55). -/

namespace Sys2Proof.Machine

namespace State

variable {s : State}

/-! ## The supply reset -/

theorem slot_supplyReset (s : State) (cause : ResetCause) (i : Fin 4) : (s.supplyReset cause).slot i = (s.slot i).inReset :=
  Four.get_map s.cart.slots Slot.inReset i

theorem stream_supplyReset (s : State) (cause : ResetCause) (i : Fin 4) : (s.supplyReset cause).stream i = {} := by
  fin_cases i <;> rfl

/-- The first reset counts the documents being written as the statement does. -/
theorem resetting_supplyReset (outside : s.resetting = none) (cause : ResetCause) : (s.supplyReset cause).resetting =
    some { cause := cause, tamperEvents := 0, tamperErased := 0,
           writingErased := (s.store.docs.filter fun x => x.state == .writing).length } := by
  show some (s.resetPhase cause) = _
  rw [resetPhase, outside, DocStore.writing, List.countP_eq_length_filter]

/-! ## The end of the reset -/

/-- The end of the reset with its notices, before the end of the event. -/
def resetClosed (s : State) (r : ResetPhase) : State :=
  (s.afterReset.post (.restart r.cause r.writingErased s.meters.tamperEvents s.tamper.latch)).tellTamper r

theorem resetEnded_eq {r : ResetPhase} (within : s.resetting = some r) : s.resetEnded = (s.resetClosed r).finish := by
  rw [resetEnded, within]; rfl

theorem tellTamper_none {r : ResetPhase} (calm : r.tamperEvents = 0) : s.tellTamper r = s := if_pos calm

theorem tellTamper_some {r : ResetPhase} (events : r.tamperEvents ≠ 0) : s.tellTamper r =
    s.post (.tamper { events := r.tamperEvents, erased := r.tamperErased, sessionEnded := false,
                      meter := s.meters.tamperEvents, latch := s.tamper.latch }) := if_neg events

/-- The notices alone differ from the state after the reset. -/
theorem resetClosed_setLink (s : State) (r : ResetPhase) : ∃ x, s.resetClosed r = s.afterReset.setLink x := by
  by_cases calm : r.tamperEvents = 0
  · rw [resetClosed, tellTamper_none calm]; exact ⟨_, rfl⟩
  · rw [resetClosed, tellTamper_some calm]; exact ⟨_, rfl⟩

theorem slot_afterReset (s : State) (i : Fin 4) : s.afterReset.slot i = (s.slot i).afterReset :=
  Four.get_map s.cart.slots Slot.afterReset i

/-! ## Within the reset -/

theorem badFrame_reset (within : s.resetting.isSome = true) : badFrame s = s := outsideReset_in within _

/-- A line's frame is not received within a reset. -/
theorem frameEnded_reset (within : s.resetting.isSome = true) (line : List LineByte) : s.frameEnded line = s := by
  unfold frameEnded
  split
  · rfl
  · rfl
  · exact badFrame_reset within
  · split
    · exact requestFrame_reset within ..
    · exact badFrame_reset within

theorem frameGap_reset (within : s.resetting.isSome = true) (line : List LineByte) : s.frameGap line = s := by
  unfold frameGap
  split
  · exact badFrame_reset within
  · rfl
  · rfl
  · rfl

theorem tamperAsserted_reset {r : ResetPhase} (within : s.resetting = some r) (released : s.tamper.input = false) :
    s.tamperAsserted = s.tamperInReset r := by
  rw [tamperAsserted, released, within]; rfl

end State

/-- The commands that a supply reset takes. -/
def takenInReset : Instr → Bool
  | .supplyReset _ | .resetEnd | .tamperEvent | .tamperRelease | .cartInserted _ | .cartRemoved _ => true
  | _ => false

/-- Every other command is lost in a supply reset. -/
theorem exec_reset {s : State} (within : s.resetting.isSome = true) {c : Instr} (lost : takenInReset c = false) : exec c s = .next s := by
  cases c with
  | frameError line | frameWhileSlotOccupied line => exact congrArg Host.Outcome.next (State.frameEnded_reset within line)
  | cmdGapExpiry line => exact congrArg Host.Outcome.next (State.frameGap_reset within line)
  | supplyReset _ | resetEnd | tamperEvent | tamperRelease | cartInserted _ | cartRemoved _ => cases lost
  | _ => exact congrArg Host.Outcome.next (outsideReset_in within _)

/-- Settles O55. -/
theorem resetsKeepRetainedMemory : Obligations.ResetsKeepRetainedMemory := by
  intro s
  refine ⟨fun cause => ?_, fun r within => ?_, fun r within => ⟨fun high => ?_, fun low => ?_⟩,
    fun within => ⟨fun i => ⟨?_, ?_⟩, ?_⟩⟩
  · exact ⟨s.supplyReset cause, rfl, rfl, rfl, rfl, s.stream_supplyReset cause, rfl, rfl, rfl, rfl, rfl, rfl,
      s.slot_supplyReset cause, rfl, rfl, rfl, rfl, rfl, rfl, rfl, rfl, rfl, rfl, rfl, rfl, rfl, rfl, rfl, rfl, rfl, rfl,
      fun outside => State.resetting_supplyReset outside cause⟩
  · have ends : exec .resetEnd s = .next (s.resetClosed r).finish := congrArg Host.Outcome.next (State.resetEnded_eq within)
    obtain ⟨x, told⟩ := s.resetClosed_setLink r
    have calm : r.tamperEvents = 0 → (s.resetClosed r).link = _ := fun none_ =>
      congrArg State.link (State.tellTamper_none none_)
    have events : r.tamperEvents ≠ 0 → (s.resetClosed r).link = _ := fun some_ =>
      congrArg State.link (State.tellTamper_some some_)
    refine ⟨s.resetClosed r, ends, ?_, fun i => ?_, ?_, calm, events, ?_, ?_, ?_, ?_, ?_, ?_, ?_, ?_, ?_⟩
    case refine_2 => rw [told]; exact s.slot_afterReset i
    all_goals rw [told]; rfl
  · show Host.Outcome.next s.tamperAsserted = _
    rw [State.tamperAsserted, if_pos high]
  · exact congrArg Host.Outcome.next (State.tamperAsserted_reset within low)
  · exact congrArg Host.Outcome.next (if_pos within)
  · exact congrArg Host.Outcome.next (if_pos within)
  · intro c reset ended event release inserted removed
    refine exec_reset within ?_
    cases c with
    | supplyReset x => exact absurd rfl (reset x)
    | resetEnd => exact absurd rfl ended
    | tamperEvent => exact absurd rfl event
    | tamperRelease => exact absurd rfl release
    | cartInserted i => exact absurd rfl (inserted i)
    | cartRemoved i => exact absurd rfl (removed i)
    | _ => rfl

end Sys2Proof.Machine
end
